-- ==== Sys2Proof/Word.lean ====
section
/-! DEFINITION. The machine's two word types (spec 00_scope.md R7): 8-bit bytes and 16-bit words. -/

namespace Sys2Proof

/-- An 8-bit register, operand or bus value (R7). -/
abbrev Byte := BitVec 8

/-- A 16-bit register, pair or address (R7). -/
abbrev Word := BitVec 16

end Sys2Proof
end

