-- ==== Sys2Proof/Config.lean ====
section
/-! DEFINITION. The open parameters of the hardware (spec 00_scope.md R8; 92_eei_decisions.md D4, D5, D9, D11, D15, D31), as plain
data. `Bus`, the one parameter that is a pair of functions (D4), is named in `Params` and is either the spec's instance `RamBus` or
a platform's bus, whose two functions are constants without a body: what is proved of them holds for every bus (log 1). The spec's
document leaves no value undefined (91_not_in_source.md N4), so no instruction needs a free value. -/

namespace Sys2Proof

/-- SPE8_HC_RULE (R8, D9): how ADD SP,e8 and LD HL,SP+e8 set H and C when the immediate is negative. -/
inductive SpE8Rule where
  | sourcePositiveOnly
  | unsignedLowByte
  deriving DecidableEq, Repr

/-- STOP_MODE (R8, D11): STOP raises StopUnmodelled, or does nothing. -/
inductive StopMode where
  | fault
  | nop
  deriving DecidableEq, Repr

/-- EI_HALT_MODE (R8, D31): whether an interrupt service leaves an armed HALT bug armed (`source`) or drops it (`clear`). -/
inductive EiHaltMode where
  | source
  | clear
  deriving DecidableEq, Repr

/-- The parameter `Bus` (R8, R52, D4): the instance `RamBus`, or the bus of one of the platforms, which are numbered. -/
inductive Bus where
  | ram
  | platform (n : Nat)
  deriving DecidableEq, Repr

/-- `State_env`, the environment's state as a platform's bus sees it (R52): memory, what the peripherals hold, IF and IE. The bytes
in `device` mean what the platform says. -/
structure BusEnv where
  mem    : List Host.Cell
  device : List Byte
  ifReg  : Byte
  ieReg  : Byte
  deriving DecidableEq, Repr

/-- The side effects of one access of a platform's bus (R51, R60): the bytes of memory that it changes, in order, and what the
peripherals hold after it. IF and IE are not among them: a device requests an interrupt between two steps only (R306, R320). -/
structure BusEffect where
  bytes  : List (Word × Byte)
  device : List Byte
  deriving DecidableEq, Repr, Inhabited

/-- `read` of platform `n`'s bus (R52, D4): the byte it answers (but at IF and IE: R63) and its side effects. A free value
(log 1). -/
opaque Config.platformRead (n : Nat) (env : BusEnv) (addr : Word) : Byte × BusEffect

/-- `write` of platform `n`'s bus (R52, D4): the write's effects on memory and on the peripherals. A free value (log 1). -/
opaque Config.platformWrite (n : Nat) (env : BusEnv) (addr : Word) (v : Byte) : BusEffect

/-- The parameters of R8. IF_RESET and IE_RESET are 5-bit values (D15). -/
structure Params where
  bus        : Bus
  spE8Rule   : SpE8Rule
  stopMode   : StopMode
  eiHaltMode : EiHaltMode
  ifAddr     : Word
  ieAddr     : Word
  ifReset    : BitVec 5
  ieReset    : BitVec 5
  deriving DecidableEq, Repr

/-- The defaults of R8. IF_RESET and IE_RESET have no default there: the values are the ones D15 suggests
(DESIGN CHOICE, unsafe, log 4). `Bus` has none either: the instance is the one R52 gives for tests (DESIGN CHOICE, unsafe, log 1). -/
def Params.default : Params where
  bus        := .ram
  spE8Rule   := .sourcePositiveOnly
  stopMode   := .fault
  eiHaltMode := .source
  ifAddr     := 0xFF0F#16
  ieAddr     := 0xFFFF#16
  ifReset    := 0x01#5
  ieReset    := 0x00#5

end Sys2Proof
end

