-- ==== Sys2Proof/Syntax.lean ====
section
/-! DEFINITION. The syntax of the instruction set: the operand classes of spec 30_encoding.md (R73 to R83) and `Instr`, with one
constructor per row of spec/opcode_table.json (R84, R85, R89), the rows with operand bytes first and then the rest, each in the
table's order (Lean's compiler wants the constructors that carry data among the first). A constructor's docstring gives its
opcode (`CB` before the opcodes behind the prefix), the spec's spelling and the rule of its meaning. In a constructor's name
`At` marks an operand in memory: `ldAtBcA` is LD (BC),A. After `Instr` come its families as functions of their operand codes. -/

namespace Sys2Proof

/-- The 8-bit registers an instruction names (R20, R73). F is not among them. -/
inductive Reg where
  | b | c | d | e | h | l | a
  deriving DecidableEq, Repr

/-- An r8 operand (R73): a register, or the byte in memory at HL (code 6). -/
inductive R8 where
  | reg (r : Reg)
  | atHl
  deriving DecidableEq, Repr

/-- An r16 operand (R74). -/
inductive R16 where
  | bc | de | hl | sp
  deriving DecidableEq, Repr

/-- An r16stk operand, of PUSH and POP (R75). -/
inductive R16stk where
  | bc | de | hl | af
  deriving DecidableEq, Repr

/-- An r16mem operand (R76): the pointer of an accumulator load or store, with its post-increment or post-decrement. -/
inductive R16mem where
  | bc | de | hli | hld
  deriving DecidableEq, Repr

/-- A condition cc (R77). -/
inductive Cond where
  | nz | z | nc | c
  deriving DecidableEq, Repr

/-- The eight accumulator operations, in the order of the field `alu` (R120). -/
inductive AluOp where
  | add | adc | sub | sbc | and | xor | or | cp
  deriving DecidableEq, Repr

/-- The source operand of an accumulator operation (R120): an r8 or an immediate byte. -/
inductive AluSrc where
  | r8 (r : R8)
  | n8 (n : Byte)
  deriving DecidableEq, Repr

/-- The eight rotates and shifts behind 0xCB, in the order of the field `y` (R85). -/
inductive RotOp where
  | rlc | rrc | rl | rr | sla | sra | swap | srl
  deriving DecidableEq, Repr

/-- One constructor per row of spec/opcode_table.json. -/
inductive Instr where
  /-- 0x01: LD BC,n16 (R217). -/
  | ldBcN16 (n : Word)
  /-- 0x06: LD B,n8 (R201). -/
  | ldBN8 (n : Byte)
  /-- 0x08: LD (n16),SP (R218). -/
  | ldAtN16Sp (n : Word)
  /-- 0x0E: LD C,n8 (R201). -/
  | ldCN8 (n : Byte)
  /-- 0x10: STOP (R272). -/
  | stop (n : Byte)
  /-- 0x11: LD DE,n16 (R217). -/
  | ldDeN16 (n : Word)
  /-- 0x16: LD D,n8 (R201). -/
  | ldDN8 (n : Byte)
  /-- 0x18: JR e8 (R244). -/
  | jrE8 (e : Byte)
  /-- 0x1E: LD E,n8 (R201). -/
  | ldEN8 (n : Byte)
  /-- 0x20: JR NZ,e8 (R245). -/
  | jrNzE8 (e : Byte)
  /-- 0x21: LD HL,n16 (R217). -/
  | ldHlN16 (n : Word)
  /-- 0x26: LD H,n8 (R201). -/
  | ldHN8 (n : Byte)
  /-- 0x28: JR Z,e8 (R245). -/
  | jrZE8 (e : Byte)
  /-- 0x2E: LD L,n8 (R201). -/
  | ldLN8 (n : Byte)
  /-- 0x30: JR NC,e8 (R245). -/
  | jrNcE8 (e : Byte)
  /-- 0x31: LD SP,n16 (R217). -/
  | ldSpN16 (n : Word)
  /-- 0x36: LD (HL),n8 (R204). -/
  | ldAtHlN8 (n : Byte)
  /-- 0x38: JR C,e8 (R245). -/
  | jrCE8 (e : Byte)
  /-- 0x3E: LD A,n8 (R201). -/
  | ldAN8 (n : Byte)
  /-- 0xC2: JP NZ,n16 (R242). -/
  | jpNzN16 (n : Word)
  /-- 0xC3: JP n16 (R241). -/
  | jpN16 (n : Word)
  /-- 0xC4: CALL NZ,n16 (R247). -/
  | callNzN16 (n : Word)
  /-- 0xC6: ADD A,n8 (R121). -/
  | addAN8 (n : Byte)
  /-- 0xCA: JP Z,n16 (R242). -/
  | jpZN16 (n : Word)
  /-- 0xCC: CALL Z,n16 (R247). -/
  | callZN16 (n : Word)
  /-- 0xCD: CALL n16 (R246). -/
  | callN16 (n : Word)
  /-- 0xCE: ADC A,n8 (R122). -/
  | adcAN8 (n : Byte)
  /-- 0xD2: JP NC,n16 (R242). -/
  | jpNcN16 (n : Word)
  /-- 0xD4: CALL NC,n16 (R247). -/
  | callNcN16 (n : Word)
  /-- 0xD6: SUB A,n8 (R123). -/
  | subAN8 (n : Byte)
  /-- 0xDA: JP C,n16 (R242). -/
  | jpCN16 (n : Word)
  /-- 0xDC: CALL C,n16 (R247). -/
  | callCN16 (n : Word)
  /-- 0xDE: SBC A,n8 (R124). -/
  | sbcAN8 (n : Byte)
  /-- 0xE0: LDH (n8),A (R210). -/
  | ldhAtN8A (n : Byte)
  /-- 0xE6: AND A,n8 (R125). -/
  | andAN8 (n : Byte)
  /-- 0xE8: ADD SP,e8 (R154). -/
  | addSpE8 (e : Byte)
  /-- 0xEA: LD (n16),A (R208). -/
  | ldAtN16A (n : Word)
  /-- 0xEE: XOR A,n8 (R126). -/
  | xorAN8 (n : Byte)
  /-- 0xF0: LDH A,(n8) (R209). -/
  | ldhAAtN8 (n : Byte)
  /-- 0xF6: OR A,n8 (R127). -/
  | orAN8 (n : Byte)
  /-- 0xF8: LD HL,SP+e8 (R220). -/
  | ldHlSpE8 (e : Byte)
  /-- 0xFA: LD A,(n16) (R207). -/
  | ldAAtN16 (n : Word)
  /-- 0xFE: CP A,n8 (R128). -/
  | cpAN8 (n : Byte)
  /-- 0x00: NOP (R270). -/
  | nop
  /-- 0x02: LD (BC),A (R206). -/
  | ldAtBcA
  /-- 0x03: INC BC (R152). -/
  | incBc
  /-- 0x04: INC B (R129). -/
  | incB
  /-- 0x05: DEC B (R130). -/
  | decB
  /-- 0x07: RLCA (R170). -/
  | rlca
  /-- 0x09: ADD HL,BC (R151). -/
  | addHlBc
  /-- 0x0A: LD A,(BC) (R205). -/
  | ldAAtBc
  /-- 0x0B: DEC BC (R153). -/
  | decBc
  /-- 0x0C: INC C (R129). -/
  | incC
  /-- 0x0D: DEC C (R130). -/
  | decC
  /-- 0x0F: RRCA (R171). -/
  | rrca
  /-- 0x12: LD (DE),A (R206). -/
  | ldAtDeA
  /-- 0x13: INC DE (R152). -/
  | incDe
  /-- 0x14: INC D (R129). -/
  | incD
  /-- 0x15: DEC D (R130). -/
  | decD
  /-- 0x17: RLA (R172). -/
  | rla
  /-- 0x19: ADD HL,DE (R151). -/
  | addHlDe
  /-- 0x1A: LD A,(DE) (R205). -/
  | ldAAtDe
  /-- 0x1B: DEC DE (R153). -/
  | decDe
  /-- 0x1C: INC E (R129). -/
  | incE
  /-- 0x1D: DEC E (R130). -/
  | decE
  /-- 0x1F: RRA (R173). -/
  | rra
  /-- 0x22: LD (HL+),A (R215). -/
  | ldAtHliA
  /-- 0x23: INC HL (R152). -/
  | incHl
  /-- 0x24: INC H (R129). -/
  | incH
  /-- 0x25: DEC H (R130). -/
  | decH
  /-- 0x27: DAA (R131). -/
  | daa
  /-- 0x29: ADD HL,HL (R151). -/
  | addHlHl
  /-- 0x2A: LD A,(HL+) (R213). -/
  | ldAAtHli
  /-- 0x2B: DEC HL (R153). -/
  | decHl
  /-- 0x2C: INC L (R129). -/
  | incL
  /-- 0x2D: DEC L (R130). -/
  | decL
  /-- 0x2F: CPL (R132). -/
  | cpl
  /-- 0x32: LD (HL-),A (R216). -/
  | ldAtHldA
  /-- 0x33: INC SP (R152). -/
  | incSp
  /-- 0x34: INC (HL) (R129). -/
  | incAtHl
  /-- 0x35: DEC (HL) (R130). -/
  | decAtHl
  /-- 0x37: SCF (R133). -/
  | scf
  /-- 0x39: ADD HL,SP (R151). -/
  | addHlSp
  /-- 0x3A: LD A,(HL-) (R214). -/
  | ldAAtHld
  /-- 0x3B: DEC SP (R153). -/
  | decSp
  /-- 0x3C: INC A (R129). -/
  | incA
  /-- 0x3D: DEC A (R130). -/
  | decA
  /-- 0x3F: CCF (R134). -/
  | ccf
  /-- 0x40: LD B,B (R200). -/
  | ldBB
  /-- 0x41: LD B,C (R200). -/
  | ldBC
  /-- 0x42: LD B,D (R200). -/
  | ldBD
  /-- 0x43: LD B,E (R200). -/
  | ldBE
  /-- 0x44: LD B,H (R200). -/
  | ldBH
  /-- 0x45: LD B,L (R200). -/
  | ldBL
  /-- 0x46: LD B,(HL) (R202). -/
  | ldBAtHl
  /-- 0x47: LD B,A (R200). -/
  | ldBA
  /-- 0x48: LD C,B (R200). -/
  | ldCB
  /-- 0x49: LD C,C (R200). -/
  | ldCC
  /-- 0x4A: LD C,D (R200). -/
  | ldCD
  /-- 0x4B: LD C,E (R200). -/
  | ldCE
  /-- 0x4C: LD C,H (R200). -/
  | ldCH
  /-- 0x4D: LD C,L (R200). -/
  | ldCL
  /-- 0x4E: LD C,(HL) (R202). -/
  | ldCAtHl
  /-- 0x4F: LD C,A (R200). -/
  | ldCA
  /-- 0x50: LD D,B (R200). -/
  | ldDB
  /-- 0x51: LD D,C (R200). -/
  | ldDC
  /-- 0x52: LD D,D (R200). -/
  | ldDD
  /-- 0x53: LD D,E (R200). -/
  | ldDE
  /-- 0x54: LD D,H (R200). -/
  | ldDH
  /-- 0x55: LD D,L (R200). -/
  | ldDL
  /-- 0x56: LD D,(HL) (R202). -/
  | ldDAtHl
  /-- 0x57: LD D,A (R200). -/
  | ldDA
  /-- 0x58: LD E,B (R200). -/
  | ldEB
  /-- 0x59: LD E,C (R200). -/
  | ldEC
  /-- 0x5A: LD E,D (R200). -/
  | ldED
  /-- 0x5B: LD E,E (R200). -/
  | ldEE
  /-- 0x5C: LD E,H (R200). -/
  | ldEH
  /-- 0x5D: LD E,L (R200). -/
  | ldEL
  /-- 0x5E: LD E,(HL) (R202). -/
  | ldEAtHl
  /-- 0x5F: LD E,A (R200). -/
  | ldEA
  /-- 0x60: LD H,B (R200). -/
  | ldHB
  /-- 0x61: LD H,C (R200). -/
  | ldHC
  /-- 0x62: LD H,D (R200). -/
  | ldHD
  /-- 0x63: LD H,E (R200). -/
  | ldHE
  /-- 0x64: LD H,H (R200). -/
  | ldHH
  /-- 0x65: LD H,L (R200). -/
  | ldHL
  /-- 0x66: LD H,(HL) (R202). -/
  | ldHAtHl
  /-- 0x67: LD H,A (R200). -/
  | ldHA
  /-- 0x68: LD L,B (R200). -/
  | ldLB
  /-- 0x69: LD L,C (R200). -/
  | ldLC
  /-- 0x6A: LD L,D (R200). -/
  | ldLD
  /-- 0x6B: LD L,E (R200). -/
  | ldLE
  /-- 0x6C: LD L,H (R200). -/
  | ldLH
  /-- 0x6D: LD L,L (R200). -/
  | ldLL
  /-- 0x6E: LD L,(HL) (R202). -/
  | ldLAtHl
  /-- 0x6F: LD L,A (R200). -/
  | ldLA
  /-- 0x70: LD (HL),B (R203). -/
  | ldAtHlB
  /-- 0x71: LD (HL),C (R203). -/
  | ldAtHlC
  /-- 0x72: LD (HL),D (R203). -/
  | ldAtHlD
  /-- 0x73: LD (HL),E (R203). -/
  | ldAtHlE
  /-- 0x74: LD (HL),H (R203). -/
  | ldAtHlH
  /-- 0x75: LD (HL),L (R203). -/
  | ldAtHlL
  /-- 0x76: HALT (R271). -/
  | halt
  /-- 0x77: LD (HL),A (R203). -/
  | ldAtHlA
  /-- 0x78: LD A,B (R200). -/
  | ldAB
  /-- 0x79: LD A,C (R200). -/
  | ldAC
  /-- 0x7A: LD A,D (R200). -/
  | ldAD
  /-- 0x7B: LD A,E (R200). -/
  | ldAE
  /-- 0x7C: LD A,H (R200). -/
  | ldAH
  /-- 0x7D: LD A,L (R200). -/
  | ldAL
  /-- 0x7E: LD A,(HL) (R202). -/
  | ldAAtHl
  /-- 0x7F: LD A,A (R200). -/
  | ldAA
  /-- 0x80: ADD A,B (R121). -/
  | addAB
  /-- 0x81: ADD A,C (R121). -/
  | addAC
  /-- 0x82: ADD A,D (R121). -/
  | addAD
  /-- 0x83: ADD A,E (R121). -/
  | addAE
  /-- 0x84: ADD A,H (R121). -/
  | addAH
  /-- 0x85: ADD A,L (R121). -/
  | addAL
  /-- 0x86: ADD A,(HL) (R121). -/
  | addAAtHl
  /-- 0x87: ADD A,A (R121). -/
  | addAA
  /-- 0x88: ADC A,B (R122). -/
  | adcAB
  /-- 0x89: ADC A,C (R122). -/
  | adcAC
  /-- 0x8A: ADC A,D (R122). -/
  | adcAD
  /-- 0x8B: ADC A,E (R122). -/
  | adcAE
  /-- 0x8C: ADC A,H (R122). -/
  | adcAH
  /-- 0x8D: ADC A,L (R122). -/
  | adcAL
  /-- 0x8E: ADC A,(HL) (R122). -/
  | adcAAtHl
  /-- 0x8F: ADC A,A (R122). -/
  | adcAA
  /-- 0x90: SUB A,B (R123). -/
  | subAB
  /-- 0x91: SUB A,C (R123). -/
  | subAC
  /-- 0x92: SUB A,D (R123). -/
  | subAD
  /-- 0x93: SUB A,E (R123). -/
  | subAE
  /-- 0x94: SUB A,H (R123). -/
  | subAH
  /-- 0x95: SUB A,L (R123). -/
  | subAL
  /-- 0x96: SUB A,(HL) (R123). -/
  | subAAtHl
  /-- 0x97: SUB A,A (R123). -/
  | subAA
  /-- 0x98: SBC A,B (R124). -/
  | sbcAB
  /-- 0x99: SBC A,C (R124). -/
  | sbcAC
  /-- 0x9A: SBC A,D (R124). -/
  | sbcAD
  /-- 0x9B: SBC A,E (R124). -/
  | sbcAE
  /-- 0x9C: SBC A,H (R124). -/
  | sbcAH
  /-- 0x9D: SBC A,L (R124). -/
  | sbcAL
  /-- 0x9E: SBC A,(HL) (R124). -/
  | sbcAAtHl
  /-- 0x9F: SBC A,A (R124). -/
  | sbcAA
  /-- 0xA0: AND A,B (R125). -/
  | andAB
  /-- 0xA1: AND A,C (R125). -/
  | andAC
  /-- 0xA2: AND A,D (R125). -/
  | andAD
  /-- 0xA3: AND A,E (R125). -/
  | andAE
  /-- 0xA4: AND A,H (R125). -/
  | andAH
  /-- 0xA5: AND A,L (R125). -/
  | andAL
  /-- 0xA6: AND A,(HL) (R125). -/
  | andAAtHl
  /-- 0xA7: AND A,A (R125). -/
  | andAA
  /-- 0xA8: XOR A,B (R126). -/
  | xorAB
  /-- 0xA9: XOR A,C (R126). -/
  | xorAC
  /-- 0xAA: XOR A,D (R126). -/
  | xorAD
  /-- 0xAB: XOR A,E (R126). -/
  | xorAE
  /-- 0xAC: XOR A,H (R126). -/
  | xorAH
  /-- 0xAD: XOR A,L (R126). -/
  | xorAL
  /-- 0xAE: XOR A,(HL) (R126). -/
  | xorAAtHl
  /-- 0xAF: XOR A,A (R126). -/
  | xorAA
  /-- 0xB0: OR A,B (R127). -/
  | orAB
  /-- 0xB1: OR A,C (R127). -/
  | orAC
  /-- 0xB2: OR A,D (R127). -/
  | orAD
  /-- 0xB3: OR A,E (R127). -/
  | orAE
  /-- 0xB4: OR A,H (R127). -/
  | orAH
  /-- 0xB5: OR A,L (R127). -/
  | orAL
  /-- 0xB6: OR A,(HL) (R127). -/
  | orAAtHl
  /-- 0xB7: OR A,A (R127). -/
  | orAA
  /-- 0xB8: CP A,B (R128). -/
  | cpAB
  /-- 0xB9: CP A,C (R128). -/
  | cpAC
  /-- 0xBA: CP A,D (R128). -/
  | cpAD
  /-- 0xBB: CP A,E (R128). -/
  | cpAE
  /-- 0xBC: CP A,H (R128). -/
  | cpAH
  /-- 0xBD: CP A,L (R128). -/
  | cpAL
  /-- 0xBE: CP A,(HL) (R128). -/
  | cpAAtHl
  /-- 0xBF: CP A,A (R128). -/
  | cpAA
  /-- 0xC0: RET NZ (R249). -/
  | retNz
  /-- 0xC1: POP BC (R222). -/
  | popBc
  /-- 0xC5: PUSH BC (R221). -/
  | pushBc
  /-- 0xC7: RST 0x00 (R251). -/
  | rst00
  /-- 0xC8: RET Z (R249). -/
  | retZ
  /-- 0xC9: RET (R248). -/
  | ret
  /-- 0xCB: PREFIX CB (R275). -/
  | prefixCb
  /-- 0xCF: RST 0x08 (R251). -/
  | rst08
  /-- 0xD0: RET NC (R249). -/
  | retNc
  /-- 0xD1: POP DE (R222). -/
  | popDe
  /-- 0xD3: UNUSED_D3 (R276). -/
  | unusedD3
  /-- 0xD5: PUSH DE (R221). -/
  | pushDe
  /-- 0xD7: RST 0x10 (R251). -/
  | rst10
  /-- 0xD8: RET C (R249). -/
  | retC
  /-- 0xD9: RETI (R250). -/
  | reti
  /-- 0xDB: UNUSED_DB (R276). -/
  | unusedDB
  /-- 0xDD: UNUSED_DD (R276). -/
  | unusedDD
  /-- 0xDF: RST 0x18 (R251). -/
  | rst18
  /-- 0xE1: POP HL (R222). -/
  | popHl
  /-- 0xE2: LDH (C),A (R212). -/
  | ldhAtCA
  /-- 0xE3: UNUSED_E3 (R276). -/
  | unusedE3
  /-- 0xE4: UNUSED_E4 (R276). -/
  | unusedE4
  /-- 0xE5: PUSH HL (R221). -/
  | pushHl
  /-- 0xE7: RST 0x20 (R251). -/
  | rst20
  /-- 0xE9: JP HL (R243). -/
  | jpHl
  /-- 0xEB: UNUSED_EB (R276). -/
  | unusedEB
  /-- 0xEC: UNUSED_EC (R276). -/
  | unusedEC
  /-- 0xED: UNUSED_ED (R276). -/
  | unusedED
  /-- 0xEF: RST 0x28 (R251). -/
  | rst28
  /-- 0xF1: POP AF (R222). -/
  | popAf
  /-- 0xF2: LDH A,(C) (R211). -/
  | ldhAAtC
  /-- 0xF3: DI (R273). -/
  | di
  /-- 0xF4: UNUSED_F4 (R276). -/
  | unusedF4
  /-- 0xF5: PUSH AF (R221). -/
  | pushAf
  /-- 0xF7: RST 0x30 (R251). -/
  | rst30
  /-- 0xF9: LD SP,HL (R219). -/
  | ldSpHl
  /-- 0xFB: EI (R274). -/
  | ei
  /-- 0xFC: UNUSED_FC (R276). -/
  | unusedFC
  /-- 0xFD: UNUSED_FD (R276). -/
  | unusedFD
  /-- 0xFF: RST 0x38 (R251). -/
  | rst38
  /-- CB 0x00: RLC B (R175). -/
  | rlcB
  /-- CB 0x01: RLC C (R175). -/
  | rlcC
  /-- CB 0x02: RLC D (R175). -/
  | rlcD
  /-- CB 0x03: RLC E (R175). -/
  | rlcE
  /-- CB 0x04: RLC H (R175). -/
  | rlcH
  /-- CB 0x05: RLC L (R175). -/
  | rlcL
  /-- CB 0x06: RLC (HL) (R175). -/
  | rlcAtHl
  /-- CB 0x07: RLC A (R175). -/
  | rlcA
  /-- CB 0x08: RRC B (R176). -/
  | rrcB
  /-- CB 0x09: RRC C (R176). -/
  | rrcC
  /-- CB 0x0A: RRC D (R176). -/
  | rrcD
  /-- CB 0x0B: RRC E (R176). -/
  | rrcE
  /-- CB 0x0C: RRC H (R176). -/
  | rrcH
  /-- CB 0x0D: RRC L (R176). -/
  | rrcL
  /-- CB 0x0E: RRC (HL) (R176). -/
  | rrcAtHl
  /-- CB 0x0F: RRC A (R176). -/
  | rrcA
  /-- CB 0x10: RL B (R177). -/
  | rlB
  /-- CB 0x11: RL C (R177). -/
  | rlC
  /-- CB 0x12: RL D (R177). -/
  | rlD
  /-- CB 0x13: RL E (R177). -/
  | rlE
  /-- CB 0x14: RL H (R177). -/
  | rlH
  /-- CB 0x15: RL L (R177). -/
  | rlL
  /-- CB 0x16: RL (HL) (R177). -/
  | rlAtHl
  /-- CB 0x17: RL A (R177). -/
  | rlA
  /-- CB 0x18: RR B (R178). -/
  | rrB
  /-- CB 0x19: RR C (R178). -/
  | rrC
  /-- CB 0x1A: RR D (R178). -/
  | rrD
  /-- CB 0x1B: RR E (R178). -/
  | rrE
  /-- CB 0x1C: RR H (R178). -/
  | rrH
  /-- CB 0x1D: RR L (R178). -/
  | rrL
  /-- CB 0x1E: RR (HL) (R178). -/
  | rrAtHl
  /-- CB 0x1F: RR A (R178). -/
  | rrA
  /-- CB 0x20: SLA B (R179). -/
  | slaB
  /-- CB 0x21: SLA C (R179). -/
  | slaC
  /-- CB 0x22: SLA D (R179). -/
  | slaD
  /-- CB 0x23: SLA E (R179). -/
  | slaE
  /-- CB 0x24: SLA H (R179). -/
  | slaH
  /-- CB 0x25: SLA L (R179). -/
  | slaL
  /-- CB 0x26: SLA (HL) (R179). -/
  | slaAtHl
  /-- CB 0x27: SLA A (R179). -/
  | slaA
  /-- CB 0x28: SRA B (R180). -/
  | sraB
  /-- CB 0x29: SRA C (R180). -/
  | sraC
  /-- CB 0x2A: SRA D (R180). -/
  | sraD
  /-- CB 0x2B: SRA E (R180). -/
  | sraE
  /-- CB 0x2C: SRA H (R180). -/
  | sraH
  /-- CB 0x2D: SRA L (R180). -/
  | sraL
  /-- CB 0x2E: SRA (HL) (R180). -/
  | sraAtHl
  /-- CB 0x2F: SRA A (R180). -/
  | sraA
  /-- CB 0x30: SWAP B (R181). -/
  | swapB
  /-- CB 0x31: SWAP C (R181). -/
  | swapC
  /-- CB 0x32: SWAP D (R181). -/
  | swapD
  /-- CB 0x33: SWAP E (R181). -/
  | swapE
  /-- CB 0x34: SWAP H (R181). -/
  | swapH
  /-- CB 0x35: SWAP L (R181). -/
  | swapL
  /-- CB 0x36: SWAP (HL) (R181). -/
  | swapAtHl
  /-- CB 0x37: SWAP A (R181). -/
  | swapA
  /-- CB 0x38: SRL B (R182). -/
  | srlB
  /-- CB 0x39: SRL C (R182). -/
  | srlC
  /-- CB 0x3A: SRL D (R182). -/
  | srlD
  /-- CB 0x3B: SRL E (R182). -/
  | srlE
  /-- CB 0x3C: SRL H (R182). -/
  | srlH
  /-- CB 0x3D: SRL L (R182). -/
  | srlL
  /-- CB 0x3E: SRL (HL) (R182). -/
  | srlAtHl
  /-- CB 0x3F: SRL A (R182). -/
  | srlA
  /-- CB 0x40: BIT 0,B (R183). -/
  | bit0B
  /-- CB 0x41: BIT 0,C (R183). -/
  | bit0C
  /-- CB 0x42: BIT 0,D (R183). -/
  | bit0D
  /-- CB 0x43: BIT 0,E (R183). -/
  | bit0E
  /-- CB 0x44: BIT 0,H (R183). -/
  | bit0H
  /-- CB 0x45: BIT 0,L (R183). -/
  | bit0L
  /-- CB 0x46: BIT 0,(HL) (R183). -/
  | bit0AtHl
  /-- CB 0x47: BIT 0,A (R183). -/
  | bit0A
  /-- CB 0x48: BIT 1,B (R183). -/
  | bit1B
  /-- CB 0x49: BIT 1,C (R183). -/
  | bit1C
  /-- CB 0x4A: BIT 1,D (R183). -/
  | bit1D
  /-- CB 0x4B: BIT 1,E (R183). -/
  | bit1E
  /-- CB 0x4C: BIT 1,H (R183). -/
  | bit1H
  /-- CB 0x4D: BIT 1,L (R183). -/
  | bit1L
  /-- CB 0x4E: BIT 1,(HL) (R183). -/
  | bit1AtHl
  /-- CB 0x4F: BIT 1,A (R183). -/
  | bit1A
  /-- CB 0x50: BIT 2,B (R183). -/
  | bit2B
  /-- CB 0x51: BIT 2,C (R183). -/
  | bit2C
  /-- CB 0x52: BIT 2,D (R183). -/
  | bit2D
  /-- CB 0x53: BIT 2,E (R183). -/
  | bit2E
  /-- CB 0x54: BIT 2,H (R183). -/
  | bit2H
  /-- CB 0x55: BIT 2,L (R183). -/
  | bit2L
  /-- CB 0x56: BIT 2,(HL) (R183). -/
  | bit2AtHl
  /-- CB 0x57: BIT 2,A (R183). -/
  | bit2A
  /-- CB 0x58: BIT 3,B (R183). -/
  | bit3B
  /-- CB 0x59: BIT 3,C (R183). -/
  | bit3C
  /-- CB 0x5A: BIT 3,D (R183). -/
  | bit3D
  /-- CB 0x5B: BIT 3,E (R183). -/
  | bit3E
  /-- CB 0x5C: BIT 3,H (R183). -/
  | bit3H
  /-- CB 0x5D: BIT 3,L (R183). -/
  | bit3L
  /-- CB 0x5E: BIT 3,(HL) (R183). -/
  | bit3AtHl
  /-- CB 0x5F: BIT 3,A (R183). -/
  | bit3A
  /-- CB 0x60: BIT 4,B (R183). -/
  | bit4B
  /-- CB 0x61: BIT 4,C (R183). -/
  | bit4C
  /-- CB 0x62: BIT 4,D (R183). -/
  | bit4D
  /-- CB 0x63: BIT 4,E (R183). -/
  | bit4E
  /-- CB 0x64: BIT 4,H (R183). -/
  | bit4H
  /-- CB 0x65: BIT 4,L (R183). -/
  | bit4L
  /-- CB 0x66: BIT 4,(HL) (R183). -/
  | bit4AtHl
  /-- CB 0x67: BIT 4,A (R183). -/
  | bit4A
  /-- CB 0x68: BIT 5,B (R183). -/
  | bit5B
  /-- CB 0x69: BIT 5,C (R183). -/
  | bit5C
  /-- CB 0x6A: BIT 5,D (R183). -/
  | bit5D
  /-- CB 0x6B: BIT 5,E (R183). -/
  | bit5E
  /-- CB 0x6C: BIT 5,H (R183). -/
  | bit5H
  /-- CB 0x6D: BIT 5,L (R183). -/
  | bit5L
  /-- CB 0x6E: BIT 5,(HL) (R183). -/
  | bit5AtHl
  /-- CB 0x6F: BIT 5,A (R183). -/
  | bit5A
  /-- CB 0x70: BIT 6,B (R183). -/
  | bit6B
  /-- CB 0x71: BIT 6,C (R183). -/
  | bit6C
  /-- CB 0x72: BIT 6,D (R183). -/
  | bit6D
  /-- CB 0x73: BIT 6,E (R183). -/
  | bit6E
  /-- CB 0x74: BIT 6,H (R183). -/
  | bit6H
  /-- CB 0x75: BIT 6,L (R183). -/
  | bit6L
  /-- CB 0x76: BIT 6,(HL) (R183). -/
  | bit6AtHl
  /-- CB 0x77: BIT 6,A (R183). -/
  | bit6A
  /-- CB 0x78: BIT 7,B (R183). -/
  | bit7B
  /-- CB 0x79: BIT 7,C (R183). -/
  | bit7C
  /-- CB 0x7A: BIT 7,D (R183). -/
  | bit7D
  /-- CB 0x7B: BIT 7,E (R183). -/
  | bit7E
  /-- CB 0x7C: BIT 7,H (R183). -/
  | bit7H
  /-- CB 0x7D: BIT 7,L (R183). -/
  | bit7L
  /-- CB 0x7E: BIT 7,(HL) (R183). -/
  | bit7AtHl
  /-- CB 0x7F: BIT 7,A (R183). -/
  | bit7A
  /-- CB 0x80: RES 0,B (R184). -/
  | res0B
  /-- CB 0x81: RES 0,C (R184). -/
  | res0C
  /-- CB 0x82: RES 0,D (R184). -/
  | res0D
  /-- CB 0x83: RES 0,E (R184). -/
  | res0E
  /-- CB 0x84: RES 0,H (R184). -/
  | res0H
  /-- CB 0x85: RES 0,L (R184). -/
  | res0L
  /-- CB 0x86: RES 0,(HL) (R184). -/
  | res0AtHl
  /-- CB 0x87: RES 0,A (R184). -/
  | res0A
  /-- CB 0x88: RES 1,B (R184). -/
  | res1B
  /-- CB 0x89: RES 1,C (R184). -/
  | res1C
  /-- CB 0x8A: RES 1,D (R184). -/
  | res1D
  /-- CB 0x8B: RES 1,E (R184). -/
  | res1E
  /-- CB 0x8C: RES 1,H (R184). -/
  | res1H
  /-- CB 0x8D: RES 1,L (R184). -/
  | res1L
  /-- CB 0x8E: RES 1,(HL) (R184). -/
  | res1AtHl
  /-- CB 0x8F: RES 1,A (R184). -/
  | res1A
  /-- CB 0x90: RES 2,B (R184). -/
  | res2B
  /-- CB 0x91: RES 2,C (R184). -/
  | res2C
  /-- CB 0x92: RES 2,D (R184). -/
  | res2D
  /-- CB 0x93: RES 2,E (R184). -/
  | res2E
  /-- CB 0x94: RES 2,H (R184). -/
  | res2H
  /-- CB 0x95: RES 2,L (R184). -/
  | res2L
  /-- CB 0x96: RES 2,(HL) (R184). -/
  | res2AtHl
  /-- CB 0x97: RES 2,A (R184). -/
  | res2A
  /-- CB 0x98: RES 3,B (R184). -/
  | res3B
  /-- CB 0x99: RES 3,C (R184). -/
  | res3C
  /-- CB 0x9A: RES 3,D (R184). -/
  | res3D
  /-- CB 0x9B: RES 3,E (R184). -/
  | res3E
  /-- CB 0x9C: RES 3,H (R184). -/
  | res3H
  /-- CB 0x9D: RES 3,L (R184). -/
  | res3L
  /-- CB 0x9E: RES 3,(HL) (R184). -/
  | res3AtHl
  /-- CB 0x9F: RES 3,A (R184). -/
  | res3A
  /-- CB 0xA0: RES 4,B (R184). -/
  | res4B
  /-- CB 0xA1: RES 4,C (R184). -/
  | res4C
  /-- CB 0xA2: RES 4,D (R184). -/
  | res4D
  /-- CB 0xA3: RES 4,E (R184). -/
  | res4E
  /-- CB 0xA4: RES 4,H (R184). -/
  | res4H
  /-- CB 0xA5: RES 4,L (R184). -/
  | res4L
  /-- CB 0xA6: RES 4,(HL) (R184). -/
  | res4AtHl
  /-- CB 0xA7: RES 4,A (R184). -/
  | res4A
  /-- CB 0xA8: RES 5,B (R184). -/
  | res5B
  /-- CB 0xA9: RES 5,C (R184). -/
  | res5C
  /-- CB 0xAA: RES 5,D (R184). -/
  | res5D
  /-- CB 0xAB: RES 5,E (R184). -/
  | res5E
  /-- CB 0xAC: RES 5,H (R184). -/
  | res5H
  /-- CB 0xAD: RES 5,L (R184). -/
  | res5L
  /-- CB 0xAE: RES 5,(HL) (R184). -/
  | res5AtHl
  /-- CB 0xAF: RES 5,A (R184). -/
  | res5A
  /-- CB 0xB0: RES 6,B (R184). -/
  | res6B
  /-- CB 0xB1: RES 6,C (R184). -/
  | res6C
  /-- CB 0xB2: RES 6,D (R184). -/
  | res6D
  /-- CB 0xB3: RES 6,E (R184). -/
  | res6E
  /-- CB 0xB4: RES 6,H (R184). -/
  | res6H
  /-- CB 0xB5: RES 6,L (R184). -/
  | res6L
  /-- CB 0xB6: RES 6,(HL) (R184). -/
  | res6AtHl
  /-- CB 0xB7: RES 6,A (R184). -/
  | res6A
  /-- CB 0xB8: RES 7,B (R184). -/
  | res7B
  /-- CB 0xB9: RES 7,C (R184). -/
  | res7C
  /-- CB 0xBA: RES 7,D (R184). -/
  | res7D
  /-- CB 0xBB: RES 7,E (R184). -/
  | res7E
  /-- CB 0xBC: RES 7,H (R184). -/
  | res7H
  /-- CB 0xBD: RES 7,L (R184). -/
  | res7L
  /-- CB 0xBE: RES 7,(HL) (R184). -/
  | res7AtHl
  /-- CB 0xBF: RES 7,A (R184). -/
  | res7A
  /-- CB 0xC0: SET 0,B (R185). -/
  | set0B
  /-- CB 0xC1: SET 0,C (R185). -/
  | set0C
  /-- CB 0xC2: SET 0,D (R185). -/
  | set0D
  /-- CB 0xC3: SET 0,E (R185). -/
  | set0E
  /-- CB 0xC4: SET 0,H (R185). -/
  | set0H
  /-- CB 0xC5: SET 0,L (R185). -/
  | set0L
  /-- CB 0xC6: SET 0,(HL) (R185). -/
  | set0AtHl
  /-- CB 0xC7: SET 0,A (R185). -/
  | set0A
  /-- CB 0xC8: SET 1,B (R185). -/
  | set1B
  /-- CB 0xC9: SET 1,C (R185). -/
  | set1C
  /-- CB 0xCA: SET 1,D (R185). -/
  | set1D
  /-- CB 0xCB: SET 1,E (R185). -/
  | set1E
  /-- CB 0xCC: SET 1,H (R185). -/
  | set1H
  /-- CB 0xCD: SET 1,L (R185). -/
  | set1L
  /-- CB 0xCE: SET 1,(HL) (R185). -/
  | set1AtHl
  /-- CB 0xCF: SET 1,A (R185). -/
  | set1A
  /-- CB 0xD0: SET 2,B (R185). -/
  | set2B
  /-- CB 0xD1: SET 2,C (R185). -/
  | set2C
  /-- CB 0xD2: SET 2,D (R185). -/
  | set2D
  /-- CB 0xD3: SET 2,E (R185). -/
  | set2E
  /-- CB 0xD4: SET 2,H (R185). -/
  | set2H
  /-- CB 0xD5: SET 2,L (R185). -/
  | set2L
  /-- CB 0xD6: SET 2,(HL) (R185). -/
  | set2AtHl
  /-- CB 0xD7: SET 2,A (R185). -/
  | set2A
  /-- CB 0xD8: SET 3,B (R185). -/
  | set3B
  /-- CB 0xD9: SET 3,C (R185). -/
  | set3C
  /-- CB 0xDA: SET 3,D (R185). -/
  | set3D
  /-- CB 0xDB: SET 3,E (R185). -/
  | set3E
  /-- CB 0xDC: SET 3,H (R185). -/
  | set3H
  /-- CB 0xDD: SET 3,L (R185). -/
  | set3L
  /-- CB 0xDE: SET 3,(HL) (R185). -/
  | set3AtHl
  /-- CB 0xDF: SET 3,A (R185). -/
  | set3A
  /-- CB 0xE0: SET 4,B (R185). -/
  | set4B
  /-- CB 0xE1: SET 4,C (R185). -/
  | set4C
  /-- CB 0xE2: SET 4,D (R185). -/
  | set4D
  /-- CB 0xE3: SET 4,E (R185). -/
  | set4E
  /-- CB 0xE4: SET 4,H (R185). -/
  | set4H
  /-- CB 0xE5: SET 4,L (R185). -/
  | set4L
  /-- CB 0xE6: SET 4,(HL) (R185). -/
  | set4AtHl
  /-- CB 0xE7: SET 4,A (R185). -/
  | set4A
  /-- CB 0xE8: SET 5,B (R185). -/
  | set5B
  /-- CB 0xE9: SET 5,C (R185). -/
  | set5C
  /-- CB 0xEA: SET 5,D (R185). -/
  | set5D
  /-- CB 0xEB: SET 5,E (R185). -/
  | set5E
  /-- CB 0xEC: SET 5,H (R185). -/
  | set5H
  /-- CB 0xED: SET 5,L (R185). -/
  | set5L
  /-- CB 0xEE: SET 5,(HL) (R185). -/
  | set5AtHl
  /-- CB 0xEF: SET 5,A (R185). -/
  | set5A
  /-- CB 0xF0: SET 6,B (R185). -/
  | set6B
  /-- CB 0xF1: SET 6,C (R185). -/
  | set6C
  /-- CB 0xF2: SET 6,D (R185). -/
  | set6D
  /-- CB 0xF3: SET 6,E (R185). -/
  | set6E
  /-- CB 0xF4: SET 6,H (R185). -/
  | set6H
  /-- CB 0xF5: SET 6,L (R185). -/
  | set6L
  /-- CB 0xF6: SET 6,(HL) (R185). -/
  | set6AtHl
  /-- CB 0xF7: SET 6,A (R185). -/
  | set6A
  /-- CB 0xF8: SET 7,B (R185). -/
  | set7B
  /-- CB 0xF9: SET 7,C (R185). -/
  | set7C
  /-- CB 0xFA: SET 7,D (R185). -/
  | set7D
  /-- CB 0xFB: SET 7,E (R185). -/
  | set7E
  /-- CB 0xFC: SET 7,H (R185). -/
  | set7H
  /-- CB 0xFD: SET 7,L (R185). -/
  | set7L
  /-- CB 0xFE: SET 7,(HL) (R185). -/
  | set7AtHl
  /-- CB 0xFF: SET 7,A (R185). -/
  | set7A
  deriving DecidableEq, Repr

/-- LD r8,r8' between two registers (R200): 0x40 | y << 3 | z. -/
def Instr.ofLd : Reg → Reg → Instr
  | .b, .b => .ldBB
  | .b, .c => .ldBC
  | .b, .d => .ldBD
  | .b, .e => .ldBE
  | .b, .h => .ldBH
  | .b, .l => .ldBL
  | .b, .a => .ldBA
  | .c, .b => .ldCB
  | .c, .c => .ldCC
  | .c, .d => .ldCD
  | .c, .e => .ldCE
  | .c, .h => .ldCH
  | .c, .l => .ldCL
  | .c, .a => .ldCA
  | .d, .b => .ldDB
  | .d, .c => .ldDC
  | .d, .d => .ldDD
  | .d, .e => .ldDE
  | .d, .h => .ldDH
  | .d, .l => .ldDL
  | .d, .a => .ldDA
  | .e, .b => .ldEB
  | .e, .c => .ldEC
  | .e, .d => .ldED
  | .e, .e => .ldEE
  | .e, .h => .ldEH
  | .e, .l => .ldEL
  | .e, .a => .ldEA
  | .h, .b => .ldHB
  | .h, .c => .ldHC
  | .h, .d => .ldHD
  | .h, .e => .ldHE
  | .h, .h => .ldHH
  | .h, .l => .ldHL
  | .h, .a => .ldHA
  | .l, .b => .ldLB
  | .l, .c => .ldLC
  | .l, .d => .ldLD
  | .l, .e => .ldLE
  | .l, .h => .ldLH
  | .l, .l => .ldLL
  | .l, .a => .ldLA
  | .a, .b => .ldAB
  | .a, .c => .ldAC
  | .a, .d => .ldAD
  | .a, .e => .ldAE
  | .a, .h => .ldAH
  | .a, .l => .ldAL
  | .a, .a => .ldAA

/-- LD r8,n8 to a register (R201): 0x06 | y << 3. -/
def Instr.ofLdN8 : Reg → Byte → Instr
  | .b, n => .ldBN8 n
  | .c, n => .ldCN8 n
  | .d, n => .ldDN8 n
  | .e, n => .ldEN8 n
  | .h, n => .ldHN8 n
  | .l, n => .ldLN8 n
  | .a, n => .ldAN8 n

/-- LD r8,(HL) (R202): 0x46 | y << 3. -/
def Instr.ofLdFromHl : Reg → Instr
  | .b => .ldBAtHl
  | .c => .ldCAtHl
  | .d => .ldDAtHl
  | .e => .ldEAtHl
  | .h => .ldHAtHl
  | .l => .ldLAtHl
  | .a => .ldAAtHl

/-- LD (HL),r8 (R203): 0x70 | z. -/
def Instr.ofLdToHl : Reg → Instr
  | .b => .ldAtHlB
  | .c => .ldAtHlC
  | .d => .ldAtHlD
  | .e => .ldAtHlE
  | .h => .ldAtHlH
  | .l => .ldAtHlL
  | .a => .ldAtHlA

/-- The accumulator operations (R120): 0x80 | alu << 3 | z, and 0xC6 | alu << 3 with an immediate. -/
def Instr.ofAlu : AluOp → AluSrc → Instr
  | .add, .r8 (.reg .b) => .addAB
  | .add, .r8 (.reg .c) => .addAC
  | .add, .r8 (.reg .d) => .addAD
  | .add, .r8 (.reg .e) => .addAE
  | .add, .r8 (.reg .h) => .addAH
  | .add, .r8 (.reg .l) => .addAL
  | .add, .r8 .atHl => .addAAtHl
  | .add, .r8 (.reg .a) => .addAA
  | .add, .n8 n => .addAN8 n
  | .adc, .r8 (.reg .b) => .adcAB
  | .adc, .r8 (.reg .c) => .adcAC
  | .adc, .r8 (.reg .d) => .adcAD
  | .adc, .r8 (.reg .e) => .adcAE
  | .adc, .r8 (.reg .h) => .adcAH
  | .adc, .r8 (.reg .l) => .adcAL
  | .adc, .r8 .atHl => .adcAAtHl
  | .adc, .r8 (.reg .a) => .adcAA
  | .adc, .n8 n => .adcAN8 n
  | .sub, .r8 (.reg .b) => .subAB
  | .sub, .r8 (.reg .c) => .subAC
  | .sub, .r8 (.reg .d) => .subAD
  | .sub, .r8 (.reg .e) => .subAE
  | .sub, .r8 (.reg .h) => .subAH
  | .sub, .r8 (.reg .l) => .subAL
  | .sub, .r8 .atHl => .subAAtHl
  | .sub, .r8 (.reg .a) => .subAA
  | .sub, .n8 n => .subAN8 n
  | .sbc, .r8 (.reg .b) => .sbcAB
  | .sbc, .r8 (.reg .c) => .sbcAC
  | .sbc, .r8 (.reg .d) => .sbcAD
  | .sbc, .r8 (.reg .e) => .sbcAE
  | .sbc, .r8 (.reg .h) => .sbcAH
  | .sbc, .r8 (.reg .l) => .sbcAL
  | .sbc, .r8 .atHl => .sbcAAtHl
  | .sbc, .r8 (.reg .a) => .sbcAA
  | .sbc, .n8 n => .sbcAN8 n
  | .and, .r8 (.reg .b) => .andAB
  | .and, .r8 (.reg .c) => .andAC
  | .and, .r8 (.reg .d) => .andAD
  | .and, .r8 (.reg .e) => .andAE
  | .and, .r8 (.reg .h) => .andAH
  | .and, .r8 (.reg .l) => .andAL
  | .and, .r8 .atHl => .andAAtHl
  | .and, .r8 (.reg .a) => .andAA
  | .and, .n8 n => .andAN8 n
  | .xor, .r8 (.reg .b) => .xorAB
  | .xor, .r8 (.reg .c) => .xorAC
  | .xor, .r8 (.reg .d) => .xorAD
  | .xor, .r8 (.reg .e) => .xorAE
  | .xor, .r8 (.reg .h) => .xorAH
  | .xor, .r8 (.reg .l) => .xorAL
  | .xor, .r8 .atHl => .xorAAtHl
  | .xor, .r8 (.reg .a) => .xorAA
  | .xor, .n8 n => .xorAN8 n
  | .or, .r8 (.reg .b) => .orAB
  | .or, .r8 (.reg .c) => .orAC
  | .or, .r8 (.reg .d) => .orAD
  | .or, .r8 (.reg .e) => .orAE
  | .or, .r8 (.reg .h) => .orAH
  | .or, .r8 (.reg .l) => .orAL
  | .or, .r8 .atHl => .orAAtHl
  | .or, .r8 (.reg .a) => .orAA
  | .or, .n8 n => .orAN8 n
  | .cp, .r8 (.reg .b) => .cpAB
  | .cp, .r8 (.reg .c) => .cpAC
  | .cp, .r8 (.reg .d) => .cpAD
  | .cp, .r8 (.reg .e) => .cpAE
  | .cp, .r8 (.reg .h) => .cpAH
  | .cp, .r8 (.reg .l) => .cpAL
  | .cp, .r8 .atHl => .cpAAtHl
  | .cp, .r8 (.reg .a) => .cpAA
  | .cp, .n8 n => .cpAN8 n

/-- INC r8 (R129): 0x04 | y << 3. -/
def Instr.ofInc8 : R8 → Instr
  | .reg .b => .incB
  | .reg .c => .incC
  | .reg .d => .incD
  | .reg .e => .incE
  | .reg .h => .incH
  | .reg .l => .incL
  | .atHl => .incAtHl
  | .reg .a => .incA

/-- DEC r8 (R130): 0x05 | y << 3. -/
def Instr.ofDec8 : R8 → Instr
  | .reg .b => .decB
  | .reg .c => .decC
  | .reg .d => .decD
  | .reg .e => .decE
  | .reg .h => .decH
  | .reg .l => .decL
  | .atHl => .decAtHl
  | .reg .a => .decA

/-- LD r16,n16 (R217): 0x01 | p << 4. -/
def Instr.ofLdR16 : R16 → Word → Instr
  | .bc, n => .ldBcN16 n
  | .de, n => .ldDeN16 n
  | .hl, n => .ldHlN16 n
  | .sp, n => .ldSpN16 n

/-- INC r16 (R152): 0x03 | p << 4. -/
def Instr.ofInc16 : R16 → Instr
  | .bc => .incBc
  | .de => .incDe
  | .hl => .incHl
  | .sp => .incSp

/-- DEC r16 (R153): 0x0B | p << 4. -/
def Instr.ofDec16 : R16 → Instr
  | .bc => .decBc
  | .de => .decDe
  | .hl => .decHl
  | .sp => .decSp

/-- ADD HL,r16 (R151): 0x09 | p << 4. -/
def Instr.ofAddHl : R16 → Instr
  | .bc => .addHlBc
  | .de => .addHlDe
  | .hl => .addHlHl
  | .sp => .addHlSp

/-- LD A,(r16mem) (R205, R213, R214): 0x0A | p << 4. -/
def Instr.ofLdAFromMem : R16mem → Instr
  | .bc => .ldAAtBc
  | .de => .ldAAtDe
  | .hli => .ldAAtHli
  | .hld => .ldAAtHld

/-- LD (r16mem),A (R206, R215, R216): 0x02 | p << 4. -/
def Instr.ofLdMemFromA : R16mem → Instr
  | .bc => .ldAtBcA
  | .de => .ldAtDeA
  | .hli => .ldAtHliA
  | .hld => .ldAtHldA

/-- PUSH r16stk (R221): 0xC5 | p << 4. -/
def Instr.ofPush : R16stk → Instr
  | .bc => .pushBc
  | .de => .pushDe
  | .hl => .pushHl
  | .af => .pushAf

/-- POP r16stk (R222): 0xC1 | p << 4. -/
def Instr.ofPop : R16stk → Instr
  | .bc => .popBc
  | .de => .popDe
  | .hl => .popHl
  | .af => .popAf

/-- JP cc,n16 (R242): 0xC2 | cc << 3. -/
def Instr.ofJp : Cond → Word → Instr
  | .nz, n => .jpNzN16 n
  | .z, n => .jpZN16 n
  | .nc, n => .jpNcN16 n
  | .c, n => .jpCN16 n

/-- JR cc,e8 (R245): 0x20 | cc << 3. -/
def Instr.ofJr : Cond → Byte → Instr
  | .nz, e => .jrNzE8 e
  | .z, e => .jrZE8 e
  | .nc, e => .jrNcE8 e
  | .c, e => .jrCE8 e

/-- CALL cc,n16 (R247): 0xC4 | cc << 3. -/
def Instr.ofCall : Cond → Word → Instr
  | .nz, n => .callNzN16 n
  | .z, n => .callZN16 n
  | .nc, n => .callNcN16 n
  | .c, n => .callCN16 n

/-- RET cc (R249): 0xC0 | cc << 3. -/
def Instr.ofRet : Cond → Instr
  | .nz => .retNz
  | .z => .retZ
  | .nc => .retNc
  | .c => .retC

/-- RST t for t = 8 * y (R251): 0xC7 | y << 3. -/
def Instr.ofRst : Fin 8 → Instr
  | 0 => .rst00
  | 1 => .rst08
  | 2 => .rst10
  | 3 => .rst18
  | 4 => .rst20
  | 5 => .rst28
  | 6 => .rst30
  | 7 => .rst38

/-- The rotates and shifts behind 0xCB (R85): y << 3 | z. -/
def Instr.ofRot : RotOp → R8 → Instr
  | .rlc, .reg .b => .rlcB
  | .rlc, .reg .c => .rlcC
  | .rlc, .reg .d => .rlcD
  | .rlc, .reg .e => .rlcE
  | .rlc, .reg .h => .rlcH
  | .rlc, .reg .l => .rlcL
  | .rlc, .atHl => .rlcAtHl
  | .rlc, .reg .a => .rlcA
  | .rrc, .reg .b => .rrcB
  | .rrc, .reg .c => .rrcC
  | .rrc, .reg .d => .rrcD
  | .rrc, .reg .e => .rrcE
  | .rrc, .reg .h => .rrcH
  | .rrc, .reg .l => .rrcL
  | .rrc, .atHl => .rrcAtHl
  | .rrc, .reg .a => .rrcA
  | .rl, .reg .b => .rlB
  | .rl, .reg .c => .rlC
  | .rl, .reg .d => .rlD
  | .rl, .reg .e => .rlE
  | .rl, .reg .h => .rlH
  | .rl, .reg .l => .rlL
  | .rl, .atHl => .rlAtHl
  | .rl, .reg .a => .rlA
  | .rr, .reg .b => .rrB
  | .rr, .reg .c => .rrC
  | .rr, .reg .d => .rrD
  | .rr, .reg .e => .rrE
  | .rr, .reg .h => .rrH
  | .rr, .reg .l => .rrL
  | .rr, .atHl => .rrAtHl
  | .rr, .reg .a => .rrA
  | .sla, .reg .b => .slaB
  | .sla, .reg .c => .slaC
  | .sla, .reg .d => .slaD
  | .sla, .reg .e => .slaE
  | .sla, .reg .h => .slaH
  | .sla, .reg .l => .slaL
  | .sla, .atHl => .slaAtHl
  | .sla, .reg .a => .slaA
  | .sra, .reg .b => .sraB
  | .sra, .reg .c => .sraC
  | .sra, .reg .d => .sraD
  | .sra, .reg .e => .sraE
  | .sra, .reg .h => .sraH
  | .sra, .reg .l => .sraL
  | .sra, .atHl => .sraAtHl
  | .sra, .reg .a => .sraA
  | .swap, .reg .b => .swapB
  | .swap, .reg .c => .swapC
  | .swap, .reg .d => .swapD
  | .swap, .reg .e => .swapE
  | .swap, .reg .h => .swapH
  | .swap, .reg .l => .swapL
  | .swap, .atHl => .swapAtHl
  | .swap, .reg .a => .swapA
  | .srl, .reg .b => .srlB
  | .srl, .reg .c => .srlC
  | .srl, .reg .d => .srlD
  | .srl, .reg .e => .srlE
  | .srl, .reg .h => .srlH
  | .srl, .reg .l => .srlL
  | .srl, .atHl => .srlAtHl
  | .srl, .reg .a => .srlA

/-- BIT u3,r8 (R183): 0x40 | u3 << 3 | z. -/
def Instr.ofBit : Fin 8 → R8 → Instr
  | 0, .reg .b => .bit0B
  | 0, .reg .c => .bit0C
  | 0, .reg .d => .bit0D
  | 0, .reg .e => .bit0E
  | 0, .reg .h => .bit0H
  | 0, .reg .l => .bit0L
  | 0, .atHl => .bit0AtHl
  | 0, .reg .a => .bit0A
  | 1, .reg .b => .bit1B
  | 1, .reg .c => .bit1C
  | 1, .reg .d => .bit1D
  | 1, .reg .e => .bit1E
  | 1, .reg .h => .bit1H
  | 1, .reg .l => .bit1L
  | 1, .atHl => .bit1AtHl
  | 1, .reg .a => .bit1A
  | 2, .reg .b => .bit2B
  | 2, .reg .c => .bit2C
  | 2, .reg .d => .bit2D
  | 2, .reg .e => .bit2E
  | 2, .reg .h => .bit2H
  | 2, .reg .l => .bit2L
  | 2, .atHl => .bit2AtHl
  | 2, .reg .a => .bit2A
  | 3, .reg .b => .bit3B
  | 3, .reg .c => .bit3C
  | 3, .reg .d => .bit3D
  | 3, .reg .e => .bit3E
  | 3, .reg .h => .bit3H
  | 3, .reg .l => .bit3L
  | 3, .atHl => .bit3AtHl
  | 3, .reg .a => .bit3A
  | 4, .reg .b => .bit4B
  | 4, .reg .c => .bit4C
  | 4, .reg .d => .bit4D
  | 4, .reg .e => .bit4E
  | 4, .reg .h => .bit4H
  | 4, .reg .l => .bit4L
  | 4, .atHl => .bit4AtHl
  | 4, .reg .a => .bit4A
  | 5, .reg .b => .bit5B
  | 5, .reg .c => .bit5C
  | 5, .reg .d => .bit5D
  | 5, .reg .e => .bit5E
  | 5, .reg .h => .bit5H
  | 5, .reg .l => .bit5L
  | 5, .atHl => .bit5AtHl
  | 5, .reg .a => .bit5A
  | 6, .reg .b => .bit6B
  | 6, .reg .c => .bit6C
  | 6, .reg .d => .bit6D
  | 6, .reg .e => .bit6E
  | 6, .reg .h => .bit6H
  | 6, .reg .l => .bit6L
  | 6, .atHl => .bit6AtHl
  | 6, .reg .a => .bit6A
  | 7, .reg .b => .bit7B
  | 7, .reg .c => .bit7C
  | 7, .reg .d => .bit7D
  | 7, .reg .e => .bit7E
  | 7, .reg .h => .bit7H
  | 7, .reg .l => .bit7L
  | 7, .atHl => .bit7AtHl
  | 7, .reg .a => .bit7A

/-- RES u3,r8 (R184): 0x80 | u3 << 3 | z. -/
def Instr.ofRes : Fin 8 → R8 → Instr
  | 0, .reg .b => .res0B
  | 0, .reg .c => .res0C
  | 0, .reg .d => .res0D
  | 0, .reg .e => .res0E
  | 0, .reg .h => .res0H
  | 0, .reg .l => .res0L
  | 0, .atHl => .res0AtHl
  | 0, .reg .a => .res0A
  | 1, .reg .b => .res1B
  | 1, .reg .c => .res1C
  | 1, .reg .d => .res1D
  | 1, .reg .e => .res1E
  | 1, .reg .h => .res1H
  | 1, .reg .l => .res1L
  | 1, .atHl => .res1AtHl
  | 1, .reg .a => .res1A
  | 2, .reg .b => .res2B
  | 2, .reg .c => .res2C
  | 2, .reg .d => .res2D
  | 2, .reg .e => .res2E
  | 2, .reg .h => .res2H
  | 2, .reg .l => .res2L
  | 2, .atHl => .res2AtHl
  | 2, .reg .a => .res2A
  | 3, .reg .b => .res3B
  | 3, .reg .c => .res3C
  | 3, .reg .d => .res3D
  | 3, .reg .e => .res3E
  | 3, .reg .h => .res3H
  | 3, .reg .l => .res3L
  | 3, .atHl => .res3AtHl
  | 3, .reg .a => .res3A
  | 4, .reg .b => .res4B
  | 4, .reg .c => .res4C
  | 4, .reg .d => .res4D
  | 4, .reg .e => .res4E
  | 4, .reg .h => .res4H
  | 4, .reg .l => .res4L
  | 4, .atHl => .res4AtHl
  | 4, .reg .a => .res4A
  | 5, .reg .b => .res5B
  | 5, .reg .c => .res5C
  | 5, .reg .d => .res5D
  | 5, .reg .e => .res5E
  | 5, .reg .h => .res5H
  | 5, .reg .l => .res5L
  | 5, .atHl => .res5AtHl
  | 5, .reg .a => .res5A
  | 6, .reg .b => .res6B
  | 6, .reg .c => .res6C
  | 6, .reg .d => .res6D
  | 6, .reg .e => .res6E
  | 6, .reg .h => .res6H
  | 6, .reg .l => .res6L
  | 6, .atHl => .res6AtHl
  | 6, .reg .a => .res6A
  | 7, .reg .b => .res7B
  | 7, .reg .c => .res7C
  | 7, .reg .d => .res7D
  | 7, .reg .e => .res7E
  | 7, .reg .h => .res7H
  | 7, .reg .l => .res7L
  | 7, .atHl => .res7AtHl
  | 7, .reg .a => .res7A

/-- SET u3,r8 (R185): 0xC0 | u3 << 3 | z. -/
def Instr.ofSet : Fin 8 → R8 → Instr
  | 0, .reg .b => .set0B
  | 0, .reg .c => .set0C
  | 0, .reg .d => .set0D
  | 0, .reg .e => .set0E
  | 0, .reg .h => .set0H
  | 0, .reg .l => .set0L
  | 0, .atHl => .set0AtHl
  | 0, .reg .a => .set0A
  | 1, .reg .b => .set1B
  | 1, .reg .c => .set1C
  | 1, .reg .d => .set1D
  | 1, .reg .e => .set1E
  | 1, .reg .h => .set1H
  | 1, .reg .l => .set1L
  | 1, .atHl => .set1AtHl
  | 1, .reg .a => .set1A
  | 2, .reg .b => .set2B
  | 2, .reg .c => .set2C
  | 2, .reg .d => .set2D
  | 2, .reg .e => .set2E
  | 2, .reg .h => .set2H
  | 2, .reg .l => .set2L
  | 2, .atHl => .set2AtHl
  | 2, .reg .a => .set2A
  | 3, .reg .b => .set3B
  | 3, .reg .c => .set3C
  | 3, .reg .d => .set3D
  | 3, .reg .e => .set3E
  | 3, .reg .h => .set3H
  | 3, .reg .l => .set3L
  | 3, .atHl => .set3AtHl
  | 3, .reg .a => .set3A
  | 4, .reg .b => .set4B
  | 4, .reg .c => .set4C
  | 4, .reg .d => .set4D
  | 4, .reg .e => .set4E
  | 4, .reg .h => .set4H
  | 4, .reg .l => .set4L
  | 4, .atHl => .set4AtHl
  | 4, .reg .a => .set4A
  | 5, .reg .b => .set5B
  | 5, .reg .c => .set5C
  | 5, .reg .d => .set5D
  | 5, .reg .e => .set5E
  | 5, .reg .h => .set5H
  | 5, .reg .l => .set5L
  | 5, .atHl => .set5AtHl
  | 5, .reg .a => .set5A
  | 6, .reg .b => .set6B
  | 6, .reg .c => .set6C
  | 6, .reg .d => .set6D
  | 6, .reg .e => .set6E
  | 6, .reg .h => .set6H
  | 6, .reg .l => .set6L
  | 6, .atHl => .set6AtHl
  | 6, .reg .a => .set6A
  | 7, .reg .b => .set7B
  | 7, .reg .c => .set7C
  | 7, .reg .d => .set7D
  | 7, .reg .e => .set7E
  | 7, .reg .h => .set7H
  | 7, .reg .l => .set7L
  | 7, .atHl => .set7AtHl
  | 7, .reg .a => .set7A

/-- The UNUSED rows (R86), each with its opcode. -/
def Instr.unusedRows : List (Byte × Instr) :=
  [(0xD3#8, .unusedD3), (0xDB#8, .unusedDB), (0xDD#8, .unusedDD), (0xE3#8, .unusedE3),
   (0xE4#8, .unusedE4), (0xEB#8, .unusedEB), (0xEC#8, .unusedEC), (0xED#8, .unusedED),
   (0xF4#8, .unusedF4), (0xFC#8, .unusedFC), (0xFD#8, .unusedFD)]

end Sys2Proof
end

