-- ==== Sys2Proof/Machine/State.lean ====
section
/-! DEFINITION. The machine's state as plain data (spec 10_state.md), the faults and refusals, and the state after reset (R36, R340). -/

namespace Sys2Proof.Machine

/-- The fatal conditions of R33. A step that meets one ends in a state that holds it (R13 `raise`), and a state that holds one has
no further step (R101): there `step` answers `Outcome.fault`. Safe: every fault is the spec's own. -/
inductive Fault where
  /-- R311: raised by the 11 UNUSED opcodes (R276), with the opcode byte. Safe: the spec calls it fatal. -/
  | unusedOpcode (op : Byte)
  /-- R312: a handler given an operand kind its descriptor should never produce. No instruction raises it (R91). Safe. -/
  | illegalOperand
  /-- R313: raised by STOP when STOP_MODE is `fault` (R272). Safe: the spec's own fault kind. -/
  | stopUnmodelled
  deriving DecidableEq, Repr

/-- Why an instruction has no meaning. No instruction of this model answers a refusal. -/
inductive Refusal where
  /-- Raised only by an arm of `exec` whose instruction has no meaning yet; there is none. Safe. -/
  | notModelled (mnemonic : String)
  deriving DecidableEq, Repr

/-- One access of the bus (R51, R53): the address and the byte that was read or written. -/
inductive BusAccess where
  | read (addr : Word) (v : Byte)
  | write (addr : Word) (v : Byte)
  deriving DecidableEq, Repr

/-- What the environment does between two steps (R306, R307, R320; log 6): a device requests interrupt k, or IF, IE, a byte of the
address space or what the peripherals hold changes. -/
inductive EnvAction where
  | request (k : Fin 5)
  | setIf (v : Byte)
  | setIe (v : Byte)
  | setByte (addr : Word) (v : Byte)
  | setDevice (d : List Byte)
  deriving DecidableEq, Repr

/-- The bytes behind the bus (R50, R52): address and byte, in the canonical form of `Memory.wf`. -/
abbrev Memory := List Host.Cell

/-- The state (R20 to R36), the environment's part of it (`mem`, `device`, `ifReg`, `ieReg`: R52) among it. The last three fields are
the model's own (log 6, log 7): what the environment is about to do, and the two outputs of the last step, its M-cycle count (R111)
and its bus accesses, oldest first (R59). -/
structure State where
  a          : Byte
  f          : Byte
  b          : Byte
  c          : Byte
  d          : Byte
  e          : Byte
  h          : Byte
  l          : Byte
  sp         : Word
  pc         : Word
  halted     : Bool
  ime        : Bool
  imePending : Bool
  haltBug    : Bool
  fault      : Option Fault
  ifReg      : Byte
  ieReg      : Byte
  mem        : Memory
  device     : List Byte
  params     : Params
  schedule   : List (List EnvAction)
  cycles     : Option Nat
  bus        : List BusAccess
  deriving DecidableEq, Repr

/-- What an instruction's meaning answers. -/
abbrev Result := Host.Outcome State Fault Refusal

/-- The state after reset, for a choice of the parameters (R36, R340). Memory lists nothing (log 2) and the
peripherals hold nothing (log 19). -/
def State.resetWith (p : Params) : State where
  a          := 0x01#8
  f          := 0xB0#8
  b          := 0x00#8
  c          := 0x13#8
  d          := 0x00#8
  e          := 0xD8#8
  h          := 0x01#8
  l          := 0x4D#8
  sp         := 0xFFFE#16
  pc         := 0x0100#16
  halted     := false
  ime        := false
  imePending := false
  haltBug    := false
  fault      := none
  ifReg      := p.ifReset.setWidth 8
  ieReg      := p.ieReset.setWidth 8
  mem        := []
  device     := []
  params     := p
  schedule   := []
  cycles     := none
  bus        := []

/-- The state after reset under the default parameters (R8, R36; log 3, log 4). -/
def State.reset : State := State.resetWith Params.default

end Sys2Proof.Machine
end

