-- ==== Sys2Proof/Machine/Memory.lean ====
section
/-! DEFINITION. Memory (spec 20_memory.md R50, R52): one byte at each of the 65,536 addresses, held as the list of those that differ
from `Memory.unlisted`, by rising address. -/

namespace Sys2Proof.Machine

/-- What an address that the list does not hold reads as. The spec leaves memory at reset to the environment (R340):
DESIGN CHOICE 0x00, unsafe (log 2). -/
def Memory.unlisted : Byte := 0x00#8

/-- The byte at an address. -/
def Memory.read : Memory → Nat → Byte
  | [], _ => Memory.unlisted
  | (k, v) :: m, a => if k = a then v else Memory.read m a

/-- The memory with the byte at an address changed, in the canonical form again. -/
def Memory.write : Memory → Nat → Byte → Memory
  | [], a, v => if v = Memory.unlisted then [] else [(a, v)]
  | (k, w) :: m, a, v =>
    if a < k then
      if v = Memory.unlisted then (k, w) :: m else (a, v) :: (k, w) :: m
    else if a = k then
      if v = Memory.unlisted then m else (a, v) :: m
    else (k, w) :: Memory.write m a v

/-- The memory with these bytes changed, in order. -/
def Memory.apply (m : Memory) (bytes : List (Word × Byte)) : Memory := bytes.foldl (fun m x => m.write x.1.toNat x.2) m

/-- The addresses rise strictly from `lo` on, are below 65,536, and no entry is `Memory.unlisted`. -/
def Memory.wfFrom : Nat → Memory → Bool
  | _, [] => true
  | lo, (k, v) :: m => decide (lo ≤ k) && decide (k < 65536) && decide (v ≠ Memory.unlisted) && Memory.wfFrom (k + 1) m

/-- The canonical form: equal memories are equal lists. -/
def Memory.wf (m : Memory) : Bool := Memory.wfFrom 0 m

end Sys2Proof.Machine
end

