-- ==== Sys2Proof/Machine/Bus.lean ====
section
/-! DEFINITION. The bus (spec 20_memory.md R51, R52, R63): `Bus = (read, write)` over the environment's state, for each choice of the
parameters, with IF and IE mapped on it. -/

namespace Sys2Proof.Machine

/-- The five significant bits of a byte written to IF or IE; bits 7..5 are forced to 0 (R63). -/
def irqBits (v : Byte) : Byte := v &&& 0x1F#8

/-- What a read answers: IF and IE at their addresses, bits 7..5 as 0, and elsewhere the byte `v` (R63). If IF_ADDR and IE_ADDR were
equal, IF would answer there (log 5). -/
def irqRead (p : Params) (env : BusEnv) (addr : Word) (v : Byte) : Byte :=
  if addr = p.ifAddr then irqBits env.ifReg
  else if addr = p.ieAddr then irqBits env.ieReg
  else v

/-- What a write does to IF and IE (R63). -/
def irqWrite (p : Params) (env : BusEnv) (addr : Word) (v : Byte) : BusEnv :=
  if addr = p.ifAddr then { env with ifReg := irqBits v }
  else if addr = p.ieAddr then { env with ieReg := irqBits v }
  else env

/-- A byte of the address space changed in place: IF, IE or memory (R52, R63). -/
def envStore (p : Params) (env : BusEnv) (addr : Word) (v : Byte) : BusEnv :=
  if addr = p.ifAddr ∨ addr = p.ieAddr then irqWrite p env addr v
  else { env with mem := Memory.write env.mem addr.toNat v }

/-- The side effects of one access of a platform's bus (R51). -/
def envEffect (env : BusEnv) (x : BusEffect) : BusEnv := { env with mem := Memory.apply env.mem x.bytes, device := x.device }

/-- `read : State_env -> Addr16 -> Byte x State_env` (R52), with IF and IE at their addresses (R63). `RamBus` answers the byte of
memory and changes nothing; a platform answers what it will and has the side effects it will (log 1). -/
def envRead (p : Params) (env : BusEnv) (addr : Word) : Byte × BusEnv :=
  match p.bus with
  | .ram => (irqRead p env addr (Memory.read env.mem addr.toNat), env)
  | .platform n =>
    let r := Config.platformRead n env addr
    (irqRead p env addr r.1, envEffect env r.2)

/-- `write : State_env -> Addr16 -> Byte -> State_env` (R52), with IF and IE at their addresses (R63). `RamBus` changes the byte of
memory; a platform has the side effects it will (log 1). -/
def envWrite (p : Params) (env : BusEnv) (addr : Word) (v : Byte) : BusEnv :=
  match p.bus with
  | .ram => envStore p env addr v
  | .platform n => envEffect (irqWrite p env addr v) (Config.platformWrite n env addr v)

end Sys2Proof.Machine
end

