-- ==== Sys2Proof/Machine/Bits.lean ====
section
/-! DEFINITION. Bytes and words: halves, joining, and the extensions of spec 00_scope.md (R9, R11). -/

namespace Sys2Proof

/-- The high byte `v[15:8]` of a word (R9). -/
def hiByte (v : Word) : Byte := v.extractLsb' 8 8

/-- The low byte `v[7:0]` of a word (R9). -/
def loByte (v : Word) : Byte := v.extractLsb' 0 8

/-- The word `hi : lo` (R10). -/
def joinBytes (hi lo : Byte) : Word := hi ++ lo

/-- `sext_16(v)` (R11). -/
def sext16 (v : Byte) : Word := v.signExtend 16

/-- `zext_16(v)` (R11). -/
def zext16 (v : Byte) : Word := v.setWidth 16

/-- The low nibble `v[3:0]` of a byte, as a number (R9). -/
def lowNibble (v : Byte) : Nat := v.toNat % 16

end Sys2Proof
end

