-- ==== Sys2Proof/Machine/Flags.lean ====
section
/-! DEFINITION. The flag register (spec 10_state.md R24, R25) and every flag computation of the spec: the accumulator operations
(41_alu8.md), the 16-bit additions (42_alu16.md), the rotates, shifts and bit test (43_rotate_shift_bit.md). A carry or a borrow
is a comparison of the exact sum or difference (R10). A flag that an instruction leaves unchanged is passed in. -/

namespace Sys2Proof.Machine

/-- The four flags (R25). -/
structure Flags where
  z : Bool
  n : Bool
  h : Bool
  c : Bool
  deriving DecidableEq, Repr

/-- The byte F that holds these flags: Z, N, H, C in bits 7, 6, 5, 4 and 0 in bits 3..0 (R24, R25). -/
def Flags.pack (fl : Flags) : Byte :=
  BitVec.ofNat 8 (128 * fl.z.toNat + 64 * fl.n.toNat + 32 * fl.h.toNat + 16 * fl.c.toNat)

/-- `F.Z` (R25). -/
def State.flagZ (s : State) : Bool := s.f.getLsbD 7

/-- `F.N` (R25). -/
def State.flagN (s : State) : Bool := s.f.getLsbD 6

/-- `F.H` (R25). -/
def State.flagH (s : State) : Bool := s.f.getLsbD 5

/-- `F.C` (R25). -/
def State.flagC (s : State) : Bool := s.f.getLsbD 4

/-- The four flags of a state. -/
def State.flags (s : State) : Flags := ⟨s.flagZ, s.flagN, s.flagH, s.flagC⟩

/-- Writes the flags. Bits 3..0 of F are 0 after it (R24: "always 0 after any flag-setting operation"). -/
def State.setFlags (fl : Flags) (s : State) : State := { s with f := fl.pack }

/-- ADD and ADC (R121, R122): the sum with the incoming carry, and the flags. -/
def add8 (a v : Byte) (cin : Bool) : Byte × Flags :=
  let sum := a.toNat + v.toNat + cin.toNat
  (BitVec.ofNat 8 sum,
    ⟨decide (sum % 256 = 0), false, decide (lowNibble a + lowNibble v + cin.toNat > 0xF), decide (sum > 0xFF)⟩)

/-- SUB, SBC and CP (R123, R124, R128): the difference with the incoming borrow, and the flags. -/
def sub8 (a v : Byte) (cin : Bool) : Byte × Flags :=
  let r := BitVec.ofInt 8 ((a.toNat : Int) - v.toNat - cin.toNat)
  (r, ⟨decide (r = 0#8), true, decide (lowNibble v + cin.toNat > lowNibble a), decide (v.toNat + cin.toNat > a.toNat)⟩)

/-- AND (R125). -/
def and8 (a v : Byte) : Byte × Flags := (a &&& v, ⟨decide (a &&& v = 0#8), false, true, false⟩)

/-- XOR (R126). -/
def xor8 (a v : Byte) : Byte × Flags := (a ^^^ v, ⟨decide (a ^^^ v = 0#8), false, false, false⟩)

/-- OR (R127). -/
def or8 (a v : Byte) : Byte × Flags := (a ||| v, ⟨decide (a ||| v = 0#8), false, false, false⟩)

/-- An accumulator operation (R120 to R128): the new accumulator and the flags, from A, the operand and the carry flag. CP leaves
the accumulator as it was (R128). -/
def alu8 (op : AluOp) (a v : Byte) (carry : Bool) : Byte × Flags :=
  match op with
  | .add => add8 a v false
  | .adc => add8 a v carry
  | .sub => sub8 a v false
  | .sbc => sub8 a v carry
  | .and => and8 a v
  | .xor => xor8 a v
  | .or => or8 a v
  | .cp => (a, (sub8 a v false).2)

/-- INC r8 (R129): the value plus one; C as it was. -/
def inc8 (v : Byte) (carry : Bool) : Byte × Flags :=
  let r := BitVec.ofNat 8 (v.toNat + 1)
  (r, ⟨decide (r = 0#8), false, decide (lowNibble v + 1 > 0xF), carry⟩)

/-- DEC r8 (R130): the value minus one; C as it was. -/
def dec8 (v : Byte) (carry : Bool) : Byte × Flags :=
  let r := BitVec.ofInt 8 ((v.toNat : Int) - 1)
  (r, ⟨decide (r = 0#8), true, decide (1 > lowNibble v), carry⟩)

/-- DAA (R131): the adjusted accumulator and the flags; N as it was. -/
def daa8 (a : Byte) (fl : Flags) : Byte × Flags :=
  if fl.n = false then
    let hi := fl.c || decide (a.toNat > 0x99)
    let a1 := if hi then a + 0x60#8 else a
    let a2 := if fl.h || decide (lowNibble a1 > 0x9) then a1 + 0x06#8 else a1
    (a2, ⟨decide (a2 = 0#8), fl.n, false, hi⟩)
  else
    let a1 := if fl.c then a - 0x60#8 else a
    let a2 := if fl.h then a1 - 0x06#8 else a1
    (a2, ⟨decide (a2 = 0#8), fl.n, false, fl.c⟩)

/-- The value and the bit shifted out of a rotate or shift (R175 to R182), from the operand and the carry flag. -/
def rotate8 (op : RotOp) (v : Byte) (carry : Bool) : Byte × Bool :=
  let bit (b : Bool) : Byte := BitVec.ofNat 8 b.toNat
  match op with
  | .rlc => ((v <<< 1) ||| bit (v.getLsbD 7), v.getLsbD 7)
  | .rrc => ((v >>> 1) ||| (bit (v.getLsbD 0) <<< 7), v.getLsbD 0)
  | .rl => ((v <<< 1) ||| bit carry, v.getLsbD 7)
  | .rr => ((v >>> 1) ||| (bit carry <<< 7), v.getLsbD 0)
  | .sla => (v <<< 1, v.getLsbD 7)
  | .sra => ((v >>> 1) ||| (v &&& 0x80#8), v.getLsbD 0)
  | .swap => ((v <<< 4) ||| (v >>> 4), false)
  | .srl => (v >>> 1, v.getLsbD 0)

/-- The flags of the 0xCB rotates and shifts (R175 to R182): Z from the result, N and H clear, C the bit shifted out. -/
def rotFlags (r : Byte × Bool) : Flags := ⟨decide (r.1 = 0#8), false, false, r.2⟩

/-- The flags of RLCA, RRCA, RLA and RRA (R170 to R173): as `rotFlags`, with Z clear. -/
def rotAFlags (r : Byte × Bool) : Flags := ⟨false, false, false, r.2⟩

/-- The flags of BIT (R183): Z set when the bit is 0; C as it was. -/
def bitFlags (u : Fin 8) (v : Byte) (carry : Bool) : Flags :=
  ⟨decide (v &&& (0x01#8 <<< u.val) = 0#8), false, true, carry⟩

/-- ADD HL,r16 (R151): the sum and the flags; Z as it was. -/
def addHl16 (x y : Word) (zero : Bool) : Word × Flags :=
  let sum := x.toNat + y.toNat
  (BitVec.ofNat 16 sum, ⟨zero, false, decide (x.toNat % 4096 + y.toNat % 4096 > 0xFFF), decide (sum > 0xFFFF)⟩)

/-- `SPAddE8(n)` (R150): the sum of SP and the sign-extended byte, and the flags. -/
def spAddE8 (rule : SpE8Rule) (sp : Word) (n : Byte) : Word × Flags :=
  let evaluated := !n.getLsbD 7 || decide (rule = .unsignedLowByte)
  (sp + sext16 n,
    ⟨false, false,
      evaluated && decide (sp.toNat % 16 + lowNibble n > 0xF),
      evaluated && decide (sp.toNat % 256 + n.toNat > 0xFF)⟩)

end Sys2Proof.Machine
end

