-- ==== Sys2Proof/Machine/Ops.lean ====
section
/-! DEFINITION. The named operations over registers and memory (spec 10_state.md, 20_memory.md): register access, the bus,
the stack; then taking an interrupt and returning from it (60_exceptions.md), raising a fault, the EI latch
(40_dispatch.md R110) and the environment's actions (R306). -/

namespace Sys2Proof.Machine

/-- `x[r]` (R12). -/
def State.reg (s : State) : Reg → Byte
  | .b => s.b | .c => s.c | .d => s.d | .e => s.e | .h => s.h | .l => s.l | .a => s.a

/-- `x[r] <- v` (R12). -/
def State.setReg (s : State) (r : Reg) (v : Byte) : State :=
  match r with
  | .b => { s with b := v }
  | .c => { s with c := v }
  | .d => { s with d := v }
  | .e => { s with e := v }
  | .h => { s with h := v }
  | .l => { s with l := v }
  | .a => { s with a := v }

/-- BC = B : C (R22). -/
def State.bc (s : State) : Word := joinBytes s.b s.c

/-- DE = D : E (R22). -/
def State.de (s : State) : Word := joinBytes s.d s.e

/-- HL = H : L (R22). -/
def State.hl (s : State) : Word := joinBytes s.h s.l

/-- AF = A : F, with bits 3..0 read as 0 (R22, R24). -/
def State.af (s : State) : Word := joinBytes s.a (s.f &&& 0xF0#8)

/-- Writing BC (R22). -/
def State.setBc (s : State) (v : Word) : State := { s with b := hiByte v, c := loByte v }

/-- Writing DE (R22). -/
def State.setDe (s : State) (v : Word) : State := { s with d := hiByte v, e := loByte v }

/-- Writing HL (R22). -/
def State.setHl (s : State) (v : Word) : State := { s with h := hiByte v, l := loByte v }

/-- Writing AF: F takes the low byte with bits 3..0 cleared (R22, R24). -/
def State.setAf (s : State) (v : Word) : State := { s with a := hiByte v, f := loByte v &&& 0xF0#8 }

/-- The environment's part of the state (R52). -/
def State.busEnv (s : State) : BusEnv := ⟨s.mem, s.device, s.ifReg, s.ieReg⟩

/-- The state with another environment. -/
def State.withEnv (s : State) (env : BusEnv) : State :=
  { s with mem := env.mem, device := env.device, ifReg := env.ifReg, ieReg := env.ieReg }

/-- The byte the bus would answer at an address now (R51). -/
def State.peek (s : State) (addr : Word) : Byte := (envRead s.params s.busEnv addr).1

/-- What a read of the bus leaves of the environment (R51, R60). -/
def State.afterRead (s : State) (addr : Word) : State := s.withEnv (envRead s.params s.busEnv addr).2

/-- What a byte written to the bus changes (R51). -/
def State.poke (s : State) (addr : Word) (v : Byte) : State := s.withEnv (envWrite s.params s.busEnv addr v)

/-- `MemRead(addr, 1)` (R51): one bus access, which answers the byte the bus reads there now and has the bus's side effects. -/
def busRead (addr : Word) (s : State) : Byte × State :=
  (s.peek addr, { s.afterRead addr with bus := s.bus ++ [.read addr (s.peek addr)] })

/-- `MemWrite(addr, 1, v)` (R51): one bus access, complete before anything else happens. -/
def busWrite (addr : Word) (v : Byte) (s : State) : State :=
  { s.poke addr v with bus := s.bus ++ [.write addr v] }

/-- `Push16(v)` (R55): the high byte at SP-1, then the low byte at SP-2; SP ends two lower. -/
def push16 (v : Word) (s : State) : State :=
  let s1 := busWrite (s.sp - 1#16) (hiByte v) { s with sp := s.sp - 1#16 }
  busWrite (s1.sp - 1#16) (loByte v) { s1 with sp := s1.sp - 1#16 }

/-- `Pop16()` (R56): the low byte at SP, then the high byte at SP+1; SP ends two higher. -/
def pop16 (s : State) : Word × State :=
  let lo := busRead s.sp s
  let s1 := { lo.2 with sp := lo.2.sp + 1#16 }
  let hi := busRead s1.sp s1
  (joinBytes hi.1 lo.1, { hi.2 with sp := hi.2.sp + 1#16 })

/-- `cycles <- n` (R13): the M-cycle count the step returns. -/
def State.finish (s : State) (n : Nat) : State := { s with cycles := some n }

/-- `raise f` (R13, R33, R315): the step ends in the fault state, and returns no cycle count. -/
def State.raise (s : State) (f : Fault) : State := { s with fault := some f, cycles := none }

/-- `pend = IF & IE & 0x1F` (R301): the pending-and-enabled interrupts. -/
def State.pend (s : State) : Byte := irqBits (s.ifReg &&& s.ieReg)

/-- The lowest-numbered bit set among bits 0 to 4, which has the highest priority (R300, R302). -/
def lowestBit (p : Byte) : Nat :=
  if p.getLsbD 0 then 0
  else if p.getLsbD 1 then 1
  else if p.getLsbD 2 then 2
  else if p.getLsbD 3 then 3
  else 4

/-- The vector of source k: `0x0040 + 8*k` (R300, R303). -/
def vector (k : Nat) : Word := BitVec.ofNat 16 (0x40 + 8 * k)

/-- Clearing bit k of IF through its own interface (R63, R304). -/
def State.clearIfBit (s : State) (k : Nat) : State := { s with ifReg := irqBits (s.ifReg &&& ~~~(0x01#8 <<< k)) }

/-- `ServiceInterrupt()` (R304, R305): the source is chosen before the push; PC is pushed, the IF bit cleared, PC set to the
vector, ime and halted cleared; 5 M-cycles. An armed HALT bug stays armed unless EI_HALT_MODE is `clear`. -/
def serviceInterrupt (s : State) : State :=
  let k := lowestBit s.pend
  let s1 := (push16 s.pc s).clearIfBit k
  { s1 with
    pc := vector k
    ime := false
    halted := false
    haltBug := s1.haltBug && decide (s1.params.eiHaltMode = .source)
    cycles := some 5 }

/-- The return from an interrupt (R250, R310): PC from the stack, and ime set at once. Nothing else is restored. -/
def returnFromInterrupt (s : State) : State :=
  let r := pop16 s
  { r.2 with pc := r.1, ime := true }

/-- The latch commit (R110): an enable that was armed before this step began, and that nothing has cancelled, takes effect. -/
def commitLatch (enableDue : Bool) (s : State) : State :=
  if enableDue && s.imePending then { s with ime := true, imePending := false } else s

/-- One action of the environment (R306, R307). It is no access of the core, so `bus` does not record it. -/
def applyEnv (s : State) : EnvAction → State
  | .request k => { s with ifReg := irqBits (s.ifReg ||| (0x01#8 <<< k.val)) }
  | .setIf v => { s with ifReg := irqBits v }
  | .setIe v => { s with ieReg := irqBits v }
  | .setByte addr v => s.withEnv (envStore s.params s.busEnv addr v)
  | .setDevice d => { s with device := d }

/-- What happens between the last step and this one (R306, D28; log 6): the environment's next batch of actions. The outputs of
the last step are cleared. -/
def State.beginStep (s : State) : State :=
  let s1 :=
    match s.schedule with
    | [] => s
    | batch :: rest => batch.foldl applyEnv { s with schedule := rest }
  { s1 with cycles := none, bus := [] }

end Sys2Proof.Machine
end

