-- ==== Sys2Proof/Machine/Operands.lean ====
section
/-! DEFINITION. Reading and writing the operand forms of spec 30_encoding.md (R73 to R83), the operand fetches (R109) and the
conditions (R240). Operands that read the bus answer the value and the state after the access. -/

namespace Sys2Proof.Machine

/-- `ReadImm8()` (R109): the byte at PC, and PC one further. -/
def readImm8 (s : State) : Byte × State :=
  let r := busRead s.pc s
  (r.1, { r.2 with pc := r.2.pc + 1#16 })

/-- `ReadImm16()` (R109): two bytes at PC, the low one first. -/
def readImm16 (s : State) : Word × State :=
  let lo := readImm8 s
  let hi := readImm8 lo.2
  (joinBytes hi.1 lo.1, hi.2)

/-- `ReadR8(k)` (R73). -/
def readR8 (r : R8) (s : State) : Byte × State :=
  match r with
  | .reg r => (s.reg r, s)
  | .atHl => busRead s.hl s

/-- `WriteR8(k, v)` (R73). -/
def writeR8 (r : R8) (v : Byte) (s : State) : State :=
  match r with
  | .reg r => s.setReg r v
  | .atHl => busWrite s.hl v s

/-- The source operand of an accumulator operation (R120). An immediate has been fetched already (log 9). -/
def readAluSrc (x : AluSrc) (s : State) : Byte × State :=
  match x with
  | .r8 r => readR8 r s
  | .n8 n => (n, s)

/-- The value of an r16 (R74). -/
def State.r16 (s : State) : R16 → Word
  | .bc => s.bc | .de => s.de | .hl => s.hl | .sp => s.sp

/-- Writing an r16 (R74). -/
def State.setR16 (s : State) (rr : R16) (v : Word) : State :=
  match rr with
  | .bc => s.setBc v
  | .de => s.setDe v
  | .hl => s.setHl v
  | .sp => { s with sp := v }

/-- The value of an r16stk (R75). -/
def State.r16stk (s : State) : R16stk → Word
  | .bc => s.bc | .de => s.de | .hl => s.hl | .af => s.af

/-- Writing an r16stk (R75). -/
def State.setR16stk (s : State) (rr : R16stk) (v : Word) : State :=
  match rr with
  | .bc => s.setBc v
  | .de => s.setDe v
  | .hl => s.setHl v
  | .af => s.setAf v

/-- The address an r16mem points at, before its post-increment or post-decrement (R76). -/
def State.memPtr (s : State) : R16mem → Word
  | .bc => s.bc | .de => s.de | .hli => s.hl | .hld => s.hl

/-- The post-increment or post-decrement of an r16mem (R76). -/
def State.bumpPtr (s : State) : R16mem → State
  | .bc => s
  | .de => s
  | .hli => s.setHl (s.hl + 1#16)
  | .hld => s.setHl (s.hl - 1#16)

/-- The high-page address `0xFF00 + n` (R81). -/
def highPage (n : Byte) : Word := 0xFF00#16 + zext16 n

/-- `Cond(cc)` (R240). -/
def State.cond (s : State) : Cond → Bool
  | .nz => !s.flagZ
  | .z => s.flagZ
  | .nc => !s.flagC
  | .c => s.flagC

/-- The RST target `zext_16(y * 8)` (R83). -/
def rstTarget (y : Fin 8) : Word := BitVec.ofNat 16 (8 * y.val)

end Sys2Proof.Machine
end

