-- ==== Sys2Proof/Machine/Alu16.lean ====
section
/-! DEFINITION. 16-bit arithmetic (spec 42_alu16.md): the operations the meanings share, then one meaning per row. -/

namespace Sys2Proof.Machine

/-- ADD HL,r16 (R151). -/
def addHl (rr : R16) (cycles : Nat) (s : State) : State :=
  let r := addHl16 s.hl (s.r16 rr) s.flagZ
  ((s.setHl r.1).setFlags r.2).finish cycles

/-- INC r16 (R152): no flags. -/
def incR16 (rr : R16) (cycles : Nat) (s : State) : State := (s.setR16 rr (s.r16 rr + 1#16)).finish cycles

/-- DEC r16 (R153): no flags. -/
def decR16 (rr : R16) (cycles : Nat) (s : State) : State := (s.setR16 rr (s.r16 rr - 1#16)).finish cycles

/-- ADD SP,e8 (R154, with the sum and flags of R150). -/
def addSp (e : Byte) (cycles : Nat) (s : State) : State :=
  let r := spAddE8 s.params.spE8Rule s.sp e
  ({ s with sp := r.1 }.setFlags r.2).finish cycles

/-- INC BC (R152). -/
def execIncBc (s : State) : Result := .next (incR16 .bc 2 s)

/-- ADD HL,BC (R151). -/
def execAddHlBc (s : State) : Result := .next (addHl .bc 2 s)

/-- DEC BC (R153). -/
def execDecBc (s : State) : Result := .next (decR16 .bc 2 s)

/-- INC DE (R152). -/
def execIncDe (s : State) : Result := .next (incR16 .de 2 s)

/-- ADD HL,DE (R151). -/
def execAddHlDe (s : State) : Result := .next (addHl .de 2 s)

/-- DEC DE (R153). -/
def execDecDe (s : State) : Result := .next (decR16 .de 2 s)

/-- INC HL (R152). -/
def execIncHl (s : State) : Result := .next (incR16 .hl 2 s)

/-- ADD HL,HL (R151). -/
def execAddHlHl (s : State) : Result := .next (addHl .hl 2 s)

/-- DEC HL (R153). -/
def execDecHl (s : State) : Result := .next (decR16 .hl 2 s)

/-- INC SP (R152). -/
def execIncSp (s : State) : Result := .next (incR16 .sp 2 s)

/-- ADD HL,SP (R151). -/
def execAddHlSp (s : State) : Result := .next (addHl .sp 2 s)

/-- DEC SP (R153). -/
def execDecSp (s : State) : Result := .next (decR16 .sp 2 s)

/-- ADD SP,e8 (R154). -/
def execAddSpE8 (e : Byte) (s : State) : Result := .next (addSp e 4 s)

end Sys2Proof.Machine
end

