-- ==== Sys2Proof/Machine/Alu8.lean ====
section
/-! DEFINITION. 8-bit arithmetic and logic (spec 41_alu8.md): the operations the meanings share, then one meaning per row. The
number in a meaning is its duration in M-cycles, as its rule and opcode_table.json give it. -/

namespace Sys2Proof.Machine

/-- ADD, ADC, SUB, SBC, AND, XOR, OR, CP (R120 to R128): the operand is read, then A and the flags are written. -/
def aluA (op : AluOp) (x : AluSrc) (cycles : Nat) (s : State) : State :=
  let v := readAluSrc x s
  let r := alu8 op v.2.a v.1 v.2.flagC
  ({ v.2 with a := r.1 }.setFlags r.2).finish cycles

/-- INC r8 (R129): on (HL), one read and then one write. -/
def incR8 (r : R8) (cycles : Nat) (s : State) : State :=
  let v := readR8 r s
  let x := inc8 v.1 v.2.flagC
  ((writeR8 r x.1 v.2).setFlags x.2).finish cycles

/-- DEC r8 (R130): on (HL), one read and then one write. -/
def decR8 (r : R8) (cycles : Nat) (s : State) : State :=
  let v := readR8 r s
  let x := dec8 v.1 v.2.flagC
  ((writeR8 r x.1 v.2).setFlags x.2).finish cycles

/-- DAA (R131). -/
def daa (cycles : Nat) (s : State) : State :=
  let r := daa8 s.a s.flags
  ({ s with a := r.1 }.setFlags r.2).finish cycles

/-- CPL (R132): A complemented, N and H set, Z and C as they were. -/
def complementA (cycles : Nat) (s : State) : State :=
  ({ s with a := s.a ^^^ 0xFF#8 }.setFlags ⟨s.flagZ, true, true, s.flagC⟩).finish cycles

/-- SCF (R133): C set, N and H clear, Z as it was. -/
def setCarry (cycles : Nat) (s : State) : State :=
  (s.setFlags ⟨s.flagZ, false, false, true⟩).finish cycles

/-- CCF (R134): C complemented, N and H clear, Z as it was. -/
def complementCarry (cycles : Nat) (s : State) : State :=
  (s.setFlags ⟨s.flagZ, false, false, !s.flagC⟩).finish cycles

/-- INC B (R129). -/
def execIncB (s : State) : Result := .next (incR8 (.reg .b) 1 s)

/-- DEC B (R130). -/
def execDecB (s : State) : Result := .next (decR8 (.reg .b) 1 s)

/-- INC C (R129). -/
def execIncC (s : State) : Result := .next (incR8 (.reg .c) 1 s)

/-- DEC C (R130). -/
def execDecC (s : State) : Result := .next (decR8 (.reg .c) 1 s)

/-- INC D (R129). -/
def execIncD (s : State) : Result := .next (incR8 (.reg .d) 1 s)

/-- DEC D (R130). -/
def execDecD (s : State) : Result := .next (decR8 (.reg .d) 1 s)

/-- INC E (R129). -/
def execIncE (s : State) : Result := .next (incR8 (.reg .e) 1 s)

/-- DEC E (R130). -/
def execDecE (s : State) : Result := .next (decR8 (.reg .e) 1 s)

/-- INC H (R129). -/
def execIncH (s : State) : Result := .next (incR8 (.reg .h) 1 s)

/-- DEC H (R130). -/
def execDecH (s : State) : Result := .next (decR8 (.reg .h) 1 s)

/-- DAA (R131). -/
def execDaa (s : State) : Result := .next (daa 1 s)

/-- INC L (R129). -/
def execIncL (s : State) : Result := .next (incR8 (.reg .l) 1 s)

/-- DEC L (R130). -/
def execDecL (s : State) : Result := .next (decR8 (.reg .l) 1 s)

/-- CPL (R132). -/
def execCpl (s : State) : Result := .next (complementA 1 s)

/-- INC (HL) (R129). -/
def execIncAtHl (s : State) : Result := .next (incR8 .atHl 3 s)

/-- DEC (HL) (R130). -/
def execDecAtHl (s : State) : Result := .next (decR8 .atHl 3 s)

/-- SCF (R133). -/
def execScf (s : State) : Result := .next (setCarry 1 s)

/-- INC A (R129). -/
def execIncA (s : State) : Result := .next (incR8 (.reg .a) 1 s)

/-- DEC A (R130). -/
def execDecA (s : State) : Result := .next (decR8 (.reg .a) 1 s)

/-- CCF (R134). -/
def execCcf (s : State) : Result := .next (complementCarry 1 s)

/-- ADD A,B (R121). -/
def execAddAB (s : State) : Result := .next (aluA .add (.r8 (.reg .b)) 1 s)

/-- ADD A,C (R121). -/
def execAddAC (s : State) : Result := .next (aluA .add (.r8 (.reg .c)) 1 s)

/-- ADD A,D (R121). -/
def execAddAD (s : State) : Result := .next (aluA .add (.r8 (.reg .d)) 1 s)

/-- ADD A,E (R121). -/
def execAddAE (s : State) : Result := .next (aluA .add (.r8 (.reg .e)) 1 s)

/-- ADD A,H (R121). -/
def execAddAH (s : State) : Result := .next (aluA .add (.r8 (.reg .h)) 1 s)

/-- ADD A,L (R121). -/
def execAddAL (s : State) : Result := .next (aluA .add (.r8 (.reg .l)) 1 s)

/-- ADD A,(HL) (R121). -/
def execAddAAtHl (s : State) : Result := .next (aluA .add (.r8 .atHl) 2 s)

/-- ADD A,A (R121). -/
def execAddAA (s : State) : Result := .next (aluA .add (.r8 (.reg .a)) 1 s)

/-- ADC A,B (R122). -/
def execAdcAB (s : State) : Result := .next (aluA .adc (.r8 (.reg .b)) 1 s)

/-- ADC A,C (R122). -/
def execAdcAC (s : State) : Result := .next (aluA .adc (.r8 (.reg .c)) 1 s)

/-- ADC A,D (R122). -/
def execAdcAD (s : State) : Result := .next (aluA .adc (.r8 (.reg .d)) 1 s)

/-- ADC A,E (R122). -/
def execAdcAE (s : State) : Result := .next (aluA .adc (.r8 (.reg .e)) 1 s)

/-- ADC A,H (R122). -/
def execAdcAH (s : State) : Result := .next (aluA .adc (.r8 (.reg .h)) 1 s)

/-- ADC A,L (R122). -/
def execAdcAL (s : State) : Result := .next (aluA .adc (.r8 (.reg .l)) 1 s)

/-- ADC A,(HL) (R122). -/
def execAdcAAtHl (s : State) : Result := .next (aluA .adc (.r8 .atHl) 2 s)

/-- ADC A,A (R122). -/
def execAdcAA (s : State) : Result := .next (aluA .adc (.r8 (.reg .a)) 1 s)

/-- SUB A,B (R123). -/
def execSubAB (s : State) : Result := .next (aluA .sub (.r8 (.reg .b)) 1 s)

/-- SUB A,C (R123). -/
def execSubAC (s : State) : Result := .next (aluA .sub (.r8 (.reg .c)) 1 s)

/-- SUB A,D (R123). -/
def execSubAD (s : State) : Result := .next (aluA .sub (.r8 (.reg .d)) 1 s)

/-- SUB A,E (R123). -/
def execSubAE (s : State) : Result := .next (aluA .sub (.r8 (.reg .e)) 1 s)

/-- SUB A,H (R123). -/
def execSubAH (s : State) : Result := .next (aluA .sub (.r8 (.reg .h)) 1 s)

/-- SUB A,L (R123). -/
def execSubAL (s : State) : Result := .next (aluA .sub (.r8 (.reg .l)) 1 s)

/-- SUB A,(HL) (R123). -/
def execSubAAtHl (s : State) : Result := .next (aluA .sub (.r8 .atHl) 2 s)

/-- SUB A,A (R123). -/
def execSubAA (s : State) : Result := .next (aluA .sub (.r8 (.reg .a)) 1 s)

/-- SBC A,B (R124). -/
def execSbcAB (s : State) : Result := .next (aluA .sbc (.r8 (.reg .b)) 1 s)

/-- SBC A,C (R124). -/
def execSbcAC (s : State) : Result := .next (aluA .sbc (.r8 (.reg .c)) 1 s)

/-- SBC A,D (R124). -/
def execSbcAD (s : State) : Result := .next (aluA .sbc (.r8 (.reg .d)) 1 s)

/-- SBC A,E (R124). -/
def execSbcAE (s : State) : Result := .next (aluA .sbc (.r8 (.reg .e)) 1 s)

/-- SBC A,H (R124). -/
def execSbcAH (s : State) : Result := .next (aluA .sbc (.r8 (.reg .h)) 1 s)

/-- SBC A,L (R124). -/
def execSbcAL (s : State) : Result := .next (aluA .sbc (.r8 (.reg .l)) 1 s)

/-- SBC A,(HL) (R124). -/
def execSbcAAtHl (s : State) : Result := .next (aluA .sbc (.r8 .atHl) 2 s)

/-- SBC A,A (R124). -/
def execSbcAA (s : State) : Result := .next (aluA .sbc (.r8 (.reg .a)) 1 s)

/-- AND A,B (R125). -/
def execAndAB (s : State) : Result := .next (aluA .and (.r8 (.reg .b)) 1 s)

/-- AND A,C (R125). -/
def execAndAC (s : State) : Result := .next (aluA .and (.r8 (.reg .c)) 1 s)

/-- AND A,D (R125). -/
def execAndAD (s : State) : Result := .next (aluA .and (.r8 (.reg .d)) 1 s)

/-- AND A,E (R125). -/
def execAndAE (s : State) : Result := .next (aluA .and (.r8 (.reg .e)) 1 s)

/-- AND A,H (R125). -/
def execAndAH (s : State) : Result := .next (aluA .and (.r8 (.reg .h)) 1 s)

/-- AND A,L (R125). -/
def execAndAL (s : State) : Result := .next (aluA .and (.r8 (.reg .l)) 1 s)

/-- AND A,(HL) (R125). -/
def execAndAAtHl (s : State) : Result := .next (aluA .and (.r8 .atHl) 2 s)

/-- AND A,A (R125). -/
def execAndAA (s : State) : Result := .next (aluA .and (.r8 (.reg .a)) 1 s)

/-- XOR A,B (R126). -/
def execXorAB (s : State) : Result := .next (aluA .xor (.r8 (.reg .b)) 1 s)

/-- XOR A,C (R126). -/
def execXorAC (s : State) : Result := .next (aluA .xor (.r8 (.reg .c)) 1 s)

/-- XOR A,D (R126). -/
def execXorAD (s : State) : Result := .next (aluA .xor (.r8 (.reg .d)) 1 s)

/-- XOR A,E (R126). -/
def execXorAE (s : State) : Result := .next (aluA .xor (.r8 (.reg .e)) 1 s)

/-- XOR A,H (R126). -/
def execXorAH (s : State) : Result := .next (aluA .xor (.r8 (.reg .h)) 1 s)

/-- XOR A,L (R126). -/
def execXorAL (s : State) : Result := .next (aluA .xor (.r8 (.reg .l)) 1 s)

/-- XOR A,(HL) (R126). -/
def execXorAAtHl (s : State) : Result := .next (aluA .xor (.r8 .atHl) 2 s)

/-- XOR A,A (R126). -/
def execXorAA (s : State) : Result := .next (aluA .xor (.r8 (.reg .a)) 1 s)

/-- OR A,B (R127). -/
def execOrAB (s : State) : Result := .next (aluA .or (.r8 (.reg .b)) 1 s)

/-- OR A,C (R127). -/
def execOrAC (s : State) : Result := .next (aluA .or (.r8 (.reg .c)) 1 s)

/-- OR A,D (R127). -/
def execOrAD (s : State) : Result := .next (aluA .or (.r8 (.reg .d)) 1 s)

/-- OR A,E (R127). -/
def execOrAE (s : State) : Result := .next (aluA .or (.r8 (.reg .e)) 1 s)

/-- OR A,H (R127). -/
def execOrAH (s : State) : Result := .next (aluA .or (.r8 (.reg .h)) 1 s)

/-- OR A,L (R127). -/
def execOrAL (s : State) : Result := .next (aluA .or (.r8 (.reg .l)) 1 s)

/-- OR A,(HL) (R127). -/
def execOrAAtHl (s : State) : Result := .next (aluA .or (.r8 .atHl) 2 s)

/-- OR A,A (R127). -/
def execOrAA (s : State) : Result := .next (aluA .or (.r8 (.reg .a)) 1 s)

/-- CP A,B (R128). -/
def execCpAB (s : State) : Result := .next (aluA .cp (.r8 (.reg .b)) 1 s)

/-- CP A,C (R128). -/
def execCpAC (s : State) : Result := .next (aluA .cp (.r8 (.reg .c)) 1 s)

/-- CP A,D (R128). -/
def execCpAD (s : State) : Result := .next (aluA .cp (.r8 (.reg .d)) 1 s)

/-- CP A,E (R128). -/
def execCpAE (s : State) : Result := .next (aluA .cp (.r8 (.reg .e)) 1 s)

/-- CP A,H (R128). -/
def execCpAH (s : State) : Result := .next (aluA .cp (.r8 (.reg .h)) 1 s)

/-- CP A,L (R128). -/
def execCpAL (s : State) : Result := .next (aluA .cp (.r8 (.reg .l)) 1 s)

/-- CP A,(HL) (R128). -/
def execCpAAtHl (s : State) : Result := .next (aluA .cp (.r8 .atHl) 2 s)

/-- CP A,A (R128). -/
def execCpAA (s : State) : Result := .next (aluA .cp (.r8 (.reg .a)) 1 s)

/-- ADD A,n8 (R121). -/
def execAddAN8 (n : Byte) (s : State) : Result := .next (aluA .add (.n8 n) 2 s)

/-- ADC A,n8 (R122). -/
def execAdcAN8 (n : Byte) (s : State) : Result := .next (aluA .adc (.n8 n) 2 s)

/-- SUB A,n8 (R123). -/
def execSubAN8 (n : Byte) (s : State) : Result := .next (aluA .sub (.n8 n) 2 s)

/-- SBC A,n8 (R124). -/
def execSbcAN8 (n : Byte) (s : State) : Result := .next (aluA .sbc (.n8 n) 2 s)

/-- AND A,n8 (R125). -/
def execAndAN8 (n : Byte) (s : State) : Result := .next (aluA .and (.n8 n) 2 s)

/-- XOR A,n8 (R126). -/
def execXorAN8 (n : Byte) (s : State) : Result := .next (aluA .xor (.n8 n) 2 s)

/-- OR A,n8 (R127). -/
def execOrAN8 (n : Byte) (s : State) : Result := .next (aluA .or (.n8 n) 2 s)

/-- CP A,n8 (R128). -/
def execCpAN8 (n : Byte) (s : State) : Result := .next (aluA .cp (.n8 n) 2 s)

end Sys2Proof.Machine
end

