-- ==== Sys2Proof/Machine/Control.lean ====
section
/-! DEFINITION. Control transfer (spec 45_control.md): the operations the meanings share, then one meaning per row. PC is past the
instruction's bytes when a meaning runs (R28, log 9), so it is the return address and the base of a relative jump. -/

namespace Sys2Proof.Machine

/-- `PC <- target` (R241, R243). -/
def jump (target : Word) (cycles : Nat) (s : State) : State := { s with pc := target }.finish cycles

/-- JP cc,n16 (R242). -/
def jumpIf (cc : Cond) (target : Word) (taken notTaken : Nat) (s : State) : State :=
  if s.cond cc then jump target taken s else s.finish notTaken

/-- JR e8 (R244): relative to the following instruction. -/
def jumpRel (e : Byte) (cycles : Nat) (s : State) : State := jump (s.pc + sext16 e) cycles s

/-- JR cc,e8 (R245). -/
def jumpRelIf (cc : Cond) (e : Byte) (taken notTaken : Nat) (s : State) : State :=
  if s.cond cc then jumpRel e taken s else s.finish notTaken

/-- CALL n16 and RST t (R246, R251): PC is pushed, then set. -/
def call (target : Word) (cycles : Nat) (s : State) : State := jump target cycles (push16 s.pc s)

/-- CALL cc,n16 (R247): nothing is pushed when it is not taken. -/
def callIf (cc : Cond) (target : Word) (taken notTaken : Nat) (s : State) : State :=
  if s.cond cc then call target taken s else s.finish notTaken

/-- RET (R248). -/
def ret (cycles : Nat) (s : State) : State :=
  let r := pop16 s
  jump r.1 cycles r.2

/-- RET cc (R249): no bus access when it is not taken. -/
def retIf (cc : Cond) (taken notTaken : Nat) (s : State) : State :=
  if s.cond cc then ret taken s else s.finish notTaken

/-- RETI (R250). -/
def reti (cycles : Nat) (s : State) : State := (returnFromInterrupt s).finish cycles

/-- JR e8 (R244). -/
def execJrE8 (e : Byte) (s : State) : Result := .next (jumpRel e 3 s)

/-- JR NZ,e8 (R245). -/
def execJrNzE8 (e : Byte) (s : State) : Result := .next (jumpRelIf .nz e 3 2 s)

/-- JR Z,e8 (R245). -/
def execJrZE8 (e : Byte) (s : State) : Result := .next (jumpRelIf .z e 3 2 s)

/-- JR NC,e8 (R245). -/
def execJrNcE8 (e : Byte) (s : State) : Result := .next (jumpRelIf .nc e 3 2 s)

/-- JR C,e8 (R245). -/
def execJrCE8 (e : Byte) (s : State) : Result := .next (jumpRelIf .c e 3 2 s)

/-- RET NZ (R249). -/
def execRetNz (s : State) : Result := .next (retIf .nz 5 2 s)

/-- JP NZ,n16 (R242). -/
def execJpNzN16 (n : Word) (s : State) : Result := .next (jumpIf .nz n 4 3 s)

/-- JP n16 (R241). -/
def execJpN16 (n : Word) (s : State) : Result := .next (jump n 4 s)

/-- CALL NZ,n16 (R247). -/
def execCallNzN16 (n : Word) (s : State) : Result := .next (callIf .nz n 6 3 s)

/-- RST 0x00 (R251). -/
def execRst00 (s : State) : Result := .next (call (rstTarget 0) 4 s)

/-- RET Z (R249). -/
def execRetZ (s : State) : Result := .next (retIf .z 5 2 s)

/-- RET (R248). -/
def execRet (s : State) : Result := .next (ret 4 s)

/-- JP Z,n16 (R242). -/
def execJpZN16 (n : Word) (s : State) : Result := .next (jumpIf .z n 4 3 s)

/-- CALL Z,n16 (R247). -/
def execCallZN16 (n : Word) (s : State) : Result := .next (callIf .z n 6 3 s)

/-- CALL n16 (R246). -/
def execCallN16 (n : Word) (s : State) : Result := .next (call n 6 s)

/-- RST 0x08 (R251). -/
def execRst08 (s : State) : Result := .next (call (rstTarget 1) 4 s)

/-- RET NC (R249). -/
def execRetNc (s : State) : Result := .next (retIf .nc 5 2 s)

/-- JP NC,n16 (R242). -/
def execJpNcN16 (n : Word) (s : State) : Result := .next (jumpIf .nc n 4 3 s)

/-- CALL NC,n16 (R247). -/
def execCallNcN16 (n : Word) (s : State) : Result := .next (callIf .nc n 6 3 s)

/-- RST 0x10 (R251). -/
def execRst10 (s : State) : Result := .next (call (rstTarget 2) 4 s)

/-- RET C (R249). -/
def execRetC (s : State) : Result := .next (retIf .c 5 2 s)

/-- RETI (R250). -/
def execReti (s : State) : Result := .next (reti 4 s)

/-- JP C,n16 (R242). -/
def execJpCN16 (n : Word) (s : State) : Result := .next (jumpIf .c n 4 3 s)

/-- CALL C,n16 (R247). -/
def execCallCN16 (n : Word) (s : State) : Result := .next (callIf .c n 6 3 s)

/-- RST 0x18 (R251). -/
def execRst18 (s : State) : Result := .next (call (rstTarget 3) 4 s)

/-- RST 0x20 (R251). -/
def execRst20 (s : State) : Result := .next (call (rstTarget 4) 4 s)

/-- JP HL (R243). -/
def execJpHl (s : State) : Result := .next (jump s.hl 1 s)

/-- RST 0x28 (R251). -/
def execRst28 (s : State) : Result := .next (call (rstTarget 5) 4 s)

/-- RST 0x30 (R251). -/
def execRst30 (s : State) : Result := .next (call (rstTarget 6) 4 s)

/-- RST 0x38 (R251). -/
def execRst38 (s : State) : Result := .next (call (rstTarget 7) 4 s)

end Sys2Proof.Machine
end

