-- ==== Sys2Proof/Machine/Load.lean ====
section
/-! DEFINITION. Loads, stores and the stack (spec 44_load.md): the operations the meanings share, then one meaning per row. Operand
bytes have been fetched before (log 9). -/

namespace Sys2Proof.Machine

/-- LD between r8 operands (R200, R202, R203): the source is read, then the destination written. -/
def ldR8R8 (dst src : R8) (cycles : Nat) (s : State) : State :=
  let v := readR8 src s
  (writeR8 dst v.1 v.2).finish cycles

/-- LD r8,n8 and LD (HL),n8 (R201, R204). -/
def ldR8N8 (dst : R8) (n : Byte) (cycles : Nat) (s : State) : State := (writeR8 dst n s).finish cycles

/-- LD A,(r16mem) (R205, R213, R214): the read, then the post-increment or post-decrement. -/
def ldAMem (m : R16mem) (cycles : Nat) (s : State) : State :=
  let v := busRead (s.memPtr m) s
  ({ v.2 with a := v.1 }.bumpPtr m).finish cycles

/-- LD (r16mem),A (R206, R215, R216): the write, then the post-increment or post-decrement. -/
def ldMemA (m : R16mem) (cycles : Nat) (s : State) : State := ((busWrite (s.memPtr m) s.a s).bumpPtr m).finish cycles

/-- Loading A from an address (R207, R209, R211). -/
def ldAAddr (addr : Word) (cycles : Nat) (s : State) : State :=
  let v := busRead addr s
  { v.2 with a := v.1 }.finish cycles

/-- Storing A at an address (R208, R210, R212). -/
def ldAddrA (addr : Word) (cycles : Nat) (s : State) : State := (busWrite addr s.a s).finish cycles

/-- LD r16,n16 (R217). -/
def ldR16 (rr : R16) (n : Word) (cycles : Nat) (s : State) : State := (s.setR16 rr n).finish cycles

/-- LD (n16),SP (R218): the low byte at n16, then the high byte at n16+1. -/
def ldAddrSp (addr : Word) (cycles : Nat) (s : State) : State :=
  (busWrite (addr + 1#16) (hiByte s.sp) (busWrite addr (loByte s.sp) s)).finish cycles

/-- LD SP,HL (R219). -/
def ldSpHl (cycles : Nat) (s : State) : State := { s with sp := s.hl }.finish cycles

/-- LD HL,SP+e8 (R220, with the sum and flags of R150): SP is unchanged. -/
def ldHlSpE8 (e : Byte) (cycles : Nat) (s : State) : State :=
  let r := spAddE8 s.params.spE8Rule s.sp e
  ((s.setHl r.1).setFlags r.2).finish cycles

/-- PUSH r16stk (R221). -/
def pushR16 (rr : R16stk) (cycles : Nat) (s : State) : State := (push16 (s.r16stk rr) s).finish cycles

/-- POP r16stk (R222). -/
def popR16 (rr : R16stk) (cycles : Nat) (s : State) : State :=
  let v := pop16 s
  (v.2.setR16stk rr v.1).finish cycles

/-- LD BC,n16 (R217). -/
def execLdBcN16 (n : Word) (s : State) : Result := .next (ldR16 .bc n 3 s)

/-- LD (BC),A (R206). -/
def execLdAtBcA (s : State) : Result := .next (ldMemA .bc 2 s)

/-- LD B,n8 (R201). -/
def execLdBN8 (n : Byte) (s : State) : Result := .next (ldR8N8 (.reg .b) n 2 s)

/-- LD (n16),SP (R218). -/
def execLdAtN16Sp (n : Word) (s : State) : Result := .next (ldAddrSp n 5 s)

/-- LD A,(BC) (R205). -/
def execLdAAtBc (s : State) : Result := .next (ldAMem .bc 2 s)

/-- LD C,n8 (R201). -/
def execLdCN8 (n : Byte) (s : State) : Result := .next (ldR8N8 (.reg .c) n 2 s)

/-- LD DE,n16 (R217). -/
def execLdDeN16 (n : Word) (s : State) : Result := .next (ldR16 .de n 3 s)

/-- LD (DE),A (R206). -/
def execLdAtDeA (s : State) : Result := .next (ldMemA .de 2 s)

/-- LD D,n8 (R201). -/
def execLdDN8 (n : Byte) (s : State) : Result := .next (ldR8N8 (.reg .d) n 2 s)

/-- LD A,(DE) (R205). -/
def execLdAAtDe (s : State) : Result := .next (ldAMem .de 2 s)

/-- LD E,n8 (R201). -/
def execLdEN8 (n : Byte) (s : State) : Result := .next (ldR8N8 (.reg .e) n 2 s)

/-- LD HL,n16 (R217). -/
def execLdHlN16 (n : Word) (s : State) : Result := .next (ldR16 .hl n 3 s)

/-- LD (HL+),A (R215). -/
def execLdAtHliA (s : State) : Result := .next (ldMemA .hli 2 s)

/-- LD H,n8 (R201). -/
def execLdHN8 (n : Byte) (s : State) : Result := .next (ldR8N8 (.reg .h) n 2 s)

/-- LD A,(HL+) (R213). -/
def execLdAAtHli (s : State) : Result := .next (ldAMem .hli 2 s)

/-- LD L,n8 (R201). -/
def execLdLN8 (n : Byte) (s : State) : Result := .next (ldR8N8 (.reg .l) n 2 s)

/-- LD SP,n16 (R217). -/
def execLdSpN16 (n : Word) (s : State) : Result := .next (ldR16 .sp n 3 s)

/-- LD (HL-),A (R216). -/
def execLdAtHldA (s : State) : Result := .next (ldMemA .hld 2 s)

/-- LD (HL),n8 (R204). -/
def execLdAtHlN8 (n : Byte) (s : State) : Result := .next (ldR8N8 .atHl n 3 s)

/-- LD A,(HL-) (R214). -/
def execLdAAtHld (s : State) : Result := .next (ldAMem .hld 2 s)

/-- LD A,n8 (R201). -/
def execLdAN8 (n : Byte) (s : State) : Result := .next (ldR8N8 (.reg .a) n 2 s)

/-- LD B,B (R200). -/
def execLdBB (s : State) : Result := .next (ldR8R8 (.reg .b) (.reg .b) 1 s)

/-- LD B,C (R200). -/
def execLdBC (s : State) : Result := .next (ldR8R8 (.reg .b) (.reg .c) 1 s)

/-- LD B,D (R200). -/
def execLdBD (s : State) : Result := .next (ldR8R8 (.reg .b) (.reg .d) 1 s)

/-- LD B,E (R200). -/
def execLdBE (s : State) : Result := .next (ldR8R8 (.reg .b) (.reg .e) 1 s)

/-- LD B,H (R200). -/
def execLdBH (s : State) : Result := .next (ldR8R8 (.reg .b) (.reg .h) 1 s)

/-- LD B,L (R200). -/
def execLdBL (s : State) : Result := .next (ldR8R8 (.reg .b) (.reg .l) 1 s)

/-- LD B,(HL) (R202). -/
def execLdBAtHl (s : State) : Result := .next (ldR8R8 (.reg .b) .atHl 2 s)

/-- LD B,A (R200). -/
def execLdBA (s : State) : Result := .next (ldR8R8 (.reg .b) (.reg .a) 1 s)

/-- LD C,B (R200). -/
def execLdCB (s : State) : Result := .next (ldR8R8 (.reg .c) (.reg .b) 1 s)

/-- LD C,C (R200). -/
def execLdCC (s : State) : Result := .next (ldR8R8 (.reg .c) (.reg .c) 1 s)

/-- LD C,D (R200). -/
def execLdCD (s : State) : Result := .next (ldR8R8 (.reg .c) (.reg .d) 1 s)

/-- LD C,E (R200). -/
def execLdCE (s : State) : Result := .next (ldR8R8 (.reg .c) (.reg .e) 1 s)

/-- LD C,H (R200). -/
def execLdCH (s : State) : Result := .next (ldR8R8 (.reg .c) (.reg .h) 1 s)

/-- LD C,L (R200). -/
def execLdCL (s : State) : Result := .next (ldR8R8 (.reg .c) (.reg .l) 1 s)

/-- LD C,(HL) (R202). -/
def execLdCAtHl (s : State) : Result := .next (ldR8R8 (.reg .c) .atHl 2 s)

/-- LD C,A (R200). -/
def execLdCA (s : State) : Result := .next (ldR8R8 (.reg .c) (.reg .a) 1 s)

/-- LD D,B (R200). -/
def execLdDB (s : State) : Result := .next (ldR8R8 (.reg .d) (.reg .b) 1 s)

/-- LD D,C (R200). -/
def execLdDC (s : State) : Result := .next (ldR8R8 (.reg .d) (.reg .c) 1 s)

/-- LD D,D (R200). -/
def execLdDD (s : State) : Result := .next (ldR8R8 (.reg .d) (.reg .d) 1 s)

/-- LD D,E (R200). -/
def execLdDE (s : State) : Result := .next (ldR8R8 (.reg .d) (.reg .e) 1 s)

/-- LD D,H (R200). -/
def execLdDH (s : State) : Result := .next (ldR8R8 (.reg .d) (.reg .h) 1 s)

/-- LD D,L (R200). -/
def execLdDL (s : State) : Result := .next (ldR8R8 (.reg .d) (.reg .l) 1 s)

/-- LD D,(HL) (R202). -/
def execLdDAtHl (s : State) : Result := .next (ldR8R8 (.reg .d) .atHl 2 s)

/-- LD D,A (R200). -/
def execLdDA (s : State) : Result := .next (ldR8R8 (.reg .d) (.reg .a) 1 s)

/-- LD E,B (R200). -/
def execLdEB (s : State) : Result := .next (ldR8R8 (.reg .e) (.reg .b) 1 s)

/-- LD E,C (R200). -/
def execLdEC (s : State) : Result := .next (ldR8R8 (.reg .e) (.reg .c) 1 s)

/-- LD E,D (R200). -/
def execLdED (s : State) : Result := .next (ldR8R8 (.reg .e) (.reg .d) 1 s)

/-- LD E,E (R200). -/
def execLdEE (s : State) : Result := .next (ldR8R8 (.reg .e) (.reg .e) 1 s)

/-- LD E,H (R200). -/
def execLdEH (s : State) : Result := .next (ldR8R8 (.reg .e) (.reg .h) 1 s)

/-- LD E,L (R200). -/
def execLdEL (s : State) : Result := .next (ldR8R8 (.reg .e) (.reg .l) 1 s)

/-- LD E,(HL) (R202). -/
def execLdEAtHl (s : State) : Result := .next (ldR8R8 (.reg .e) .atHl 2 s)

/-- LD E,A (R200). -/
def execLdEA (s : State) : Result := .next (ldR8R8 (.reg .e) (.reg .a) 1 s)

/-- LD H,B (R200). -/
def execLdHB (s : State) : Result := .next (ldR8R8 (.reg .h) (.reg .b) 1 s)

/-- LD H,C (R200). -/
def execLdHC (s : State) : Result := .next (ldR8R8 (.reg .h) (.reg .c) 1 s)

/-- LD H,D (R200). -/
def execLdHD (s : State) : Result := .next (ldR8R8 (.reg .h) (.reg .d) 1 s)

/-- LD H,E (R200). -/
def execLdHE (s : State) : Result := .next (ldR8R8 (.reg .h) (.reg .e) 1 s)

/-- LD H,H (R200). -/
def execLdHH (s : State) : Result := .next (ldR8R8 (.reg .h) (.reg .h) 1 s)

/-- LD H,L (R200). -/
def execLdHL (s : State) : Result := .next (ldR8R8 (.reg .h) (.reg .l) 1 s)

/-- LD H,(HL) (R202). -/
def execLdHAtHl (s : State) : Result := .next (ldR8R8 (.reg .h) .atHl 2 s)

/-- LD H,A (R200). -/
def execLdHA (s : State) : Result := .next (ldR8R8 (.reg .h) (.reg .a) 1 s)

/-- LD L,B (R200). -/
def execLdLB (s : State) : Result := .next (ldR8R8 (.reg .l) (.reg .b) 1 s)

/-- LD L,C (R200). -/
def execLdLC (s : State) : Result := .next (ldR8R8 (.reg .l) (.reg .c) 1 s)

/-- LD L,D (R200). -/
def execLdLD (s : State) : Result := .next (ldR8R8 (.reg .l) (.reg .d) 1 s)

/-- LD L,E (R200). -/
def execLdLE (s : State) : Result := .next (ldR8R8 (.reg .l) (.reg .e) 1 s)

/-- LD L,H (R200). -/
def execLdLH (s : State) : Result := .next (ldR8R8 (.reg .l) (.reg .h) 1 s)

/-- LD L,L (R200). -/
def execLdLL (s : State) : Result := .next (ldR8R8 (.reg .l) (.reg .l) 1 s)

/-- LD L,(HL) (R202). -/
def execLdLAtHl (s : State) : Result := .next (ldR8R8 (.reg .l) .atHl 2 s)

/-- LD L,A (R200). -/
def execLdLA (s : State) : Result := .next (ldR8R8 (.reg .l) (.reg .a) 1 s)

/-- LD (HL),B (R203). -/
def execLdAtHlB (s : State) : Result := .next (ldR8R8 .atHl (.reg .b) 2 s)

/-- LD (HL),C (R203). -/
def execLdAtHlC (s : State) : Result := .next (ldR8R8 .atHl (.reg .c) 2 s)

/-- LD (HL),D (R203). -/
def execLdAtHlD (s : State) : Result := .next (ldR8R8 .atHl (.reg .d) 2 s)

/-- LD (HL),E (R203). -/
def execLdAtHlE (s : State) : Result := .next (ldR8R8 .atHl (.reg .e) 2 s)

/-- LD (HL),H (R203). -/
def execLdAtHlH (s : State) : Result := .next (ldR8R8 .atHl (.reg .h) 2 s)

/-- LD (HL),L (R203). -/
def execLdAtHlL (s : State) : Result := .next (ldR8R8 .atHl (.reg .l) 2 s)

/-- LD (HL),A (R203). -/
def execLdAtHlA (s : State) : Result := .next (ldR8R8 .atHl (.reg .a) 2 s)

/-- LD A,B (R200). -/
def execLdAB (s : State) : Result := .next (ldR8R8 (.reg .a) (.reg .b) 1 s)

/-- LD A,C (R200). -/
def execLdAC (s : State) : Result := .next (ldR8R8 (.reg .a) (.reg .c) 1 s)

/-- LD A,D (R200). -/
def execLdAD (s : State) : Result := .next (ldR8R8 (.reg .a) (.reg .d) 1 s)

/-- LD A,E (R200). -/
def execLdAE (s : State) : Result := .next (ldR8R8 (.reg .a) (.reg .e) 1 s)

/-- LD A,H (R200). -/
def execLdAH (s : State) : Result := .next (ldR8R8 (.reg .a) (.reg .h) 1 s)

/-- LD A,L (R200). -/
def execLdAL (s : State) : Result := .next (ldR8R8 (.reg .a) (.reg .l) 1 s)

/-- LD A,(HL) (R202). -/
def execLdAAtHl (s : State) : Result := .next (ldR8R8 (.reg .a) .atHl 2 s)

/-- LD A,A (R200). -/
def execLdAA (s : State) : Result := .next (ldR8R8 (.reg .a) (.reg .a) 1 s)

/-- POP BC (R222). -/
def execPopBc (s : State) : Result := .next (popR16 .bc 3 s)

/-- PUSH BC (R221). -/
def execPushBc (s : State) : Result := .next (pushR16 .bc 4 s)

/-- POP DE (R222). -/
def execPopDe (s : State) : Result := .next (popR16 .de 3 s)

/-- PUSH DE (R221). -/
def execPushDe (s : State) : Result := .next (pushR16 .de 4 s)

/-- LDH (n8),A (R210). -/
def execLdhAtN8A (n : Byte) (s : State) : Result := .next (ldAddrA (highPage n) 3 s)

/-- POP HL (R222). -/
def execPopHl (s : State) : Result := .next (popR16 .hl 3 s)

/-- LDH (C),A (R212). -/
def execLdhAtCA (s : State) : Result := .next (ldAddrA (highPage s.c) 2 s)

/-- PUSH HL (R221). -/
def execPushHl (s : State) : Result := .next (pushR16 .hl 4 s)

/-- LD (n16),A (R208). -/
def execLdAtN16A (n : Word) (s : State) : Result := .next (ldAddrA n 4 s)

/-- LDH A,(n8) (R209). -/
def execLdhAAtN8 (n : Byte) (s : State) : Result := .next (ldAAddr (highPage n) 3 s)

/-- POP AF (R222). -/
def execPopAf (s : State) : Result := .next (popR16 .af 3 s)

/-- LDH A,(C) (R211). -/
def execLdhAAtC (s : State) : Result := .next (ldAAddr (highPage s.c) 2 s)

/-- PUSH AF (R221). -/
def execPushAf (s : State) : Result := .next (pushR16 .af 4 s)

/-- LD HL,SP+e8 (R220). -/
def execLdHlSpE8 (e : Byte) (s : State) : Result := .next (ldHlSpE8 e 3 s)

/-- LD SP,HL (R219). -/
def execLdSpHl (s : State) : Result := .next (ldSpHl 2 s)

/-- LD A,(n16) (R207). -/
def execLdAAtN16 (n : Word) (s : State) : Result := .next (ldAAddr n 4 s)

end Sys2Proof.Machine
end

