-- ==== Sys2Proof/Machine/Rotate.lean ====
section
/-! DEFINITION. Rotates, shifts and bit operations (spec 43_rotate_shift_bit.md): the operations the meanings share, then one meaning
per row. -/

namespace Sys2Proof.Machine

/-- RLCA, RRCA, RLA, RRA (R170 to R173): the rotate on A, with Z cleared. -/
def rotA (op : RotOp) (cycles : Nat) (s : State) : State :=
  let r := rotate8 op s.a s.flagC
  ({ s with a := r.1 }.setFlags (rotAFlags r)).finish cycles

/-- The 0xCB rotates and shifts (R174 to R182): on (HL), one read and then one write. -/
def rotR8 (op : RotOp) (r : R8) (cycles : Nat) (s : State) : State :=
  let v := readR8 r s
  let x := rotate8 op v.1 v.2.flagC
  ((writeR8 r x.1 v.2).setFlags (rotFlags x)).finish cycles

/-- BIT u3,r8 (R183): the operand is only read. -/
def bitR8 (u : Fin 8) (r : R8) (cycles : Nat) (s : State) : State :=
  let v := readR8 r s
  (v.2.setFlags (bitFlags u v.1 v.2.flagC)).finish cycles

/-- RES u3,r8 (R184): no flags; the write happens even when the bit is 0 already. -/
def resR8 (u : Fin 8) (r : R8) (cycles : Nat) (s : State) : State :=
  let v := readR8 r s
  (writeR8 r (v.1 &&& ~~~(0x01#8 <<< u.val)) v.2).finish cycles

/-- SET u3,r8 (R185): no flags; the write happens even when the bit is 1 already. -/
def setR8 (u : Fin 8) (r : R8) (cycles : Nat) (s : State) : State :=
  let v := readR8 r s
  (writeR8 r (v.1 ||| (0x01#8 <<< u.val)) v.2).finish cycles

/-- RLCA (R170). -/
def execRlca (s : State) : Result := .next (rotA .rlc 1 s)

/-- RRCA (R171). -/
def execRrca (s : State) : Result := .next (rotA .rrc 1 s)

/-- RLA (R172). -/
def execRla (s : State) : Result := .next (rotA .rl 1 s)

/-- RRA (R173). -/
def execRra (s : State) : Result := .next (rotA .rr 1 s)

/-- RLC B (R175). -/
def execRlcB (s : State) : Result := .next (rotR8 .rlc (.reg .b) 2 s)

/-- RLC C (R175). -/
def execRlcC (s : State) : Result := .next (rotR8 .rlc (.reg .c) 2 s)

/-- RLC D (R175). -/
def execRlcD (s : State) : Result := .next (rotR8 .rlc (.reg .d) 2 s)

/-- RLC E (R175). -/
def execRlcE (s : State) : Result := .next (rotR8 .rlc (.reg .e) 2 s)

/-- RLC H (R175). -/
def execRlcH (s : State) : Result := .next (rotR8 .rlc (.reg .h) 2 s)

/-- RLC L (R175). -/
def execRlcL (s : State) : Result := .next (rotR8 .rlc (.reg .l) 2 s)

/-- RLC (HL) (R175). -/
def execRlcAtHl (s : State) : Result := .next (rotR8 .rlc .atHl 4 s)

/-- RLC A (R175). -/
def execRlcA (s : State) : Result := .next (rotR8 .rlc (.reg .a) 2 s)

/-- RRC B (R176). -/
def execRrcB (s : State) : Result := .next (rotR8 .rrc (.reg .b) 2 s)

/-- RRC C (R176). -/
def execRrcC (s : State) : Result := .next (rotR8 .rrc (.reg .c) 2 s)

/-- RRC D (R176). -/
def execRrcD (s : State) : Result := .next (rotR8 .rrc (.reg .d) 2 s)

/-- RRC E (R176). -/
def execRrcE (s : State) : Result := .next (rotR8 .rrc (.reg .e) 2 s)

/-- RRC H (R176). -/
def execRrcH (s : State) : Result := .next (rotR8 .rrc (.reg .h) 2 s)

/-- RRC L (R176). -/
def execRrcL (s : State) : Result := .next (rotR8 .rrc (.reg .l) 2 s)

/-- RRC (HL) (R176). -/
def execRrcAtHl (s : State) : Result := .next (rotR8 .rrc .atHl 4 s)

/-- RRC A (R176). -/
def execRrcA (s : State) : Result := .next (rotR8 .rrc (.reg .a) 2 s)

/-- RL B (R177). -/
def execRlB (s : State) : Result := .next (rotR8 .rl (.reg .b) 2 s)

/-- RL C (R177). -/
def execRlC (s : State) : Result := .next (rotR8 .rl (.reg .c) 2 s)

/-- RL D (R177). -/
def execRlD (s : State) : Result := .next (rotR8 .rl (.reg .d) 2 s)

/-- RL E (R177). -/
def execRlE (s : State) : Result := .next (rotR8 .rl (.reg .e) 2 s)

/-- RL H (R177). -/
def execRlH (s : State) : Result := .next (rotR8 .rl (.reg .h) 2 s)

/-- RL L (R177). -/
def execRlL (s : State) : Result := .next (rotR8 .rl (.reg .l) 2 s)

/-- RL (HL) (R177). -/
def execRlAtHl (s : State) : Result := .next (rotR8 .rl .atHl 4 s)

/-- RL A (R177). -/
def execRlA (s : State) : Result := .next (rotR8 .rl (.reg .a) 2 s)

/-- RR B (R178). -/
def execRrB (s : State) : Result := .next (rotR8 .rr (.reg .b) 2 s)

/-- RR C (R178). -/
def execRrC (s : State) : Result := .next (rotR8 .rr (.reg .c) 2 s)

/-- RR D (R178). -/
def execRrD (s : State) : Result := .next (rotR8 .rr (.reg .d) 2 s)

/-- RR E (R178). -/
def execRrE (s : State) : Result := .next (rotR8 .rr (.reg .e) 2 s)

/-- RR H (R178). -/
def execRrH (s : State) : Result := .next (rotR8 .rr (.reg .h) 2 s)

/-- RR L (R178). -/
def execRrL (s : State) : Result := .next (rotR8 .rr (.reg .l) 2 s)

/-- RR (HL) (R178). -/
def execRrAtHl (s : State) : Result := .next (rotR8 .rr .atHl 4 s)

/-- RR A (R178). -/
def execRrA (s : State) : Result := .next (rotR8 .rr (.reg .a) 2 s)

/-- SLA B (R179). -/
def execSlaB (s : State) : Result := .next (rotR8 .sla (.reg .b) 2 s)

/-- SLA C (R179). -/
def execSlaC (s : State) : Result := .next (rotR8 .sla (.reg .c) 2 s)

/-- SLA D (R179). -/
def execSlaD (s : State) : Result := .next (rotR8 .sla (.reg .d) 2 s)

/-- SLA E (R179). -/
def execSlaE (s : State) : Result := .next (rotR8 .sla (.reg .e) 2 s)

/-- SLA H (R179). -/
def execSlaH (s : State) : Result := .next (rotR8 .sla (.reg .h) 2 s)

/-- SLA L (R179). -/
def execSlaL (s : State) : Result := .next (rotR8 .sla (.reg .l) 2 s)

/-- SLA (HL) (R179). -/
def execSlaAtHl (s : State) : Result := .next (rotR8 .sla .atHl 4 s)

/-- SLA A (R179). -/
def execSlaA (s : State) : Result := .next (rotR8 .sla (.reg .a) 2 s)

/-- SRA B (R180). -/
def execSraB (s : State) : Result := .next (rotR8 .sra (.reg .b) 2 s)

/-- SRA C (R180). -/
def execSraC (s : State) : Result := .next (rotR8 .sra (.reg .c) 2 s)

/-- SRA D (R180). -/
def execSraD (s : State) : Result := .next (rotR8 .sra (.reg .d) 2 s)

/-- SRA E (R180). -/
def execSraE (s : State) : Result := .next (rotR8 .sra (.reg .e) 2 s)

/-- SRA H (R180). -/
def execSraH (s : State) : Result := .next (rotR8 .sra (.reg .h) 2 s)

/-- SRA L (R180). -/
def execSraL (s : State) : Result := .next (rotR8 .sra (.reg .l) 2 s)

/-- SRA (HL) (R180). -/
def execSraAtHl (s : State) : Result := .next (rotR8 .sra .atHl 4 s)

/-- SRA A (R180). -/
def execSraA (s : State) : Result := .next (rotR8 .sra (.reg .a) 2 s)

/-- SWAP B (R181). -/
def execSwapB (s : State) : Result := .next (rotR8 .swap (.reg .b) 2 s)

/-- SWAP C (R181). -/
def execSwapC (s : State) : Result := .next (rotR8 .swap (.reg .c) 2 s)

/-- SWAP D (R181). -/
def execSwapD (s : State) : Result := .next (rotR8 .swap (.reg .d) 2 s)

/-- SWAP E (R181). -/
def execSwapE (s : State) : Result := .next (rotR8 .swap (.reg .e) 2 s)

/-- SWAP H (R181). -/
def execSwapH (s : State) : Result := .next (rotR8 .swap (.reg .h) 2 s)

/-- SWAP L (R181). -/
def execSwapL (s : State) : Result := .next (rotR8 .swap (.reg .l) 2 s)

/-- SWAP (HL) (R181). -/
def execSwapAtHl (s : State) : Result := .next (rotR8 .swap .atHl 4 s)

/-- SWAP A (R181). -/
def execSwapA (s : State) : Result := .next (rotR8 .swap (.reg .a) 2 s)

/-- SRL B (R182). -/
def execSrlB (s : State) : Result := .next (rotR8 .srl (.reg .b) 2 s)

/-- SRL C (R182). -/
def execSrlC (s : State) : Result := .next (rotR8 .srl (.reg .c) 2 s)

/-- SRL D (R182). -/
def execSrlD (s : State) : Result := .next (rotR8 .srl (.reg .d) 2 s)

/-- SRL E (R182). -/
def execSrlE (s : State) : Result := .next (rotR8 .srl (.reg .e) 2 s)

/-- SRL H (R182). -/
def execSrlH (s : State) : Result := .next (rotR8 .srl (.reg .h) 2 s)

/-- SRL L (R182). -/
def execSrlL (s : State) : Result := .next (rotR8 .srl (.reg .l) 2 s)

/-- SRL (HL) (R182). -/
def execSrlAtHl (s : State) : Result := .next (rotR8 .srl .atHl 4 s)

/-- SRL A (R182). -/
def execSrlA (s : State) : Result := .next (rotR8 .srl (.reg .a) 2 s)

/-- BIT 0,B (R183). -/
def execBit0B (s : State) : Result := .next (bitR8 0 (.reg .b) 2 s)

/-- BIT 0,C (R183). -/
def execBit0C (s : State) : Result := .next (bitR8 0 (.reg .c) 2 s)

/-- BIT 0,D (R183). -/
def execBit0D (s : State) : Result := .next (bitR8 0 (.reg .d) 2 s)

/-- BIT 0,E (R183). -/
def execBit0E (s : State) : Result := .next (bitR8 0 (.reg .e) 2 s)

/-- BIT 0,H (R183). -/
def execBit0H (s : State) : Result := .next (bitR8 0 (.reg .h) 2 s)

/-- BIT 0,L (R183). -/
def execBit0L (s : State) : Result := .next (bitR8 0 (.reg .l) 2 s)

/-- BIT 0,(HL) (R183). -/
def execBit0AtHl (s : State) : Result := .next (bitR8 0 .atHl 3 s)

/-- BIT 0,A (R183). -/
def execBit0A (s : State) : Result := .next (bitR8 0 (.reg .a) 2 s)

/-- BIT 1,B (R183). -/
def execBit1B (s : State) : Result := .next (bitR8 1 (.reg .b) 2 s)

/-- BIT 1,C (R183). -/
def execBit1C (s : State) : Result := .next (bitR8 1 (.reg .c) 2 s)

/-- BIT 1,D (R183). -/
def execBit1D (s : State) : Result := .next (bitR8 1 (.reg .d) 2 s)

/-- BIT 1,E (R183). -/
def execBit1E (s : State) : Result := .next (bitR8 1 (.reg .e) 2 s)

/-- BIT 1,H (R183). -/
def execBit1H (s : State) : Result := .next (bitR8 1 (.reg .h) 2 s)

/-- BIT 1,L (R183). -/
def execBit1L (s : State) : Result := .next (bitR8 1 (.reg .l) 2 s)

/-- BIT 1,(HL) (R183). -/
def execBit1AtHl (s : State) : Result := .next (bitR8 1 .atHl 3 s)

/-- BIT 1,A (R183). -/
def execBit1A (s : State) : Result := .next (bitR8 1 (.reg .a) 2 s)

/-- BIT 2,B (R183). -/
def execBit2B (s : State) : Result := .next (bitR8 2 (.reg .b) 2 s)

/-- BIT 2,C (R183). -/
def execBit2C (s : State) : Result := .next (bitR8 2 (.reg .c) 2 s)

/-- BIT 2,D (R183). -/
def execBit2D (s : State) : Result := .next (bitR8 2 (.reg .d) 2 s)

/-- BIT 2,E (R183). -/
def execBit2E (s : State) : Result := .next (bitR8 2 (.reg .e) 2 s)

/-- BIT 2,H (R183). -/
def execBit2H (s : State) : Result := .next (bitR8 2 (.reg .h) 2 s)

/-- BIT 2,L (R183). -/
def execBit2L (s : State) : Result := .next (bitR8 2 (.reg .l) 2 s)

/-- BIT 2,(HL) (R183). -/
def execBit2AtHl (s : State) : Result := .next (bitR8 2 .atHl 3 s)

/-- BIT 2,A (R183). -/
def execBit2A (s : State) : Result := .next (bitR8 2 (.reg .a) 2 s)

/-- BIT 3,B (R183). -/
def execBit3B (s : State) : Result := .next (bitR8 3 (.reg .b) 2 s)

/-- BIT 3,C (R183). -/
def execBit3C (s : State) : Result := .next (bitR8 3 (.reg .c) 2 s)

/-- BIT 3,D (R183). -/
def execBit3D (s : State) : Result := .next (bitR8 3 (.reg .d) 2 s)

/-- BIT 3,E (R183). -/
def execBit3E (s : State) : Result := .next (bitR8 3 (.reg .e) 2 s)

/-- BIT 3,H (R183). -/
def execBit3H (s : State) : Result := .next (bitR8 3 (.reg .h) 2 s)

/-- BIT 3,L (R183). -/
def execBit3L (s : State) : Result := .next (bitR8 3 (.reg .l) 2 s)

/-- BIT 3,(HL) (R183). -/
def execBit3AtHl (s : State) : Result := .next (bitR8 3 .atHl 3 s)

/-- BIT 3,A (R183). -/
def execBit3A (s : State) : Result := .next (bitR8 3 (.reg .a) 2 s)

/-- BIT 4,B (R183). -/
def execBit4B (s : State) : Result := .next (bitR8 4 (.reg .b) 2 s)

/-- BIT 4,C (R183). -/
def execBit4C (s : State) : Result := .next (bitR8 4 (.reg .c) 2 s)

/-- BIT 4,D (R183). -/
def execBit4D (s : State) : Result := .next (bitR8 4 (.reg .d) 2 s)

/-- BIT 4,E (R183). -/
def execBit4E (s : State) : Result := .next (bitR8 4 (.reg .e) 2 s)

/-- BIT 4,H (R183). -/
def execBit4H (s : State) : Result := .next (bitR8 4 (.reg .h) 2 s)

/-- BIT 4,L (R183). -/
def execBit4L (s : State) : Result := .next (bitR8 4 (.reg .l) 2 s)

/-- BIT 4,(HL) (R183). -/
def execBit4AtHl (s : State) : Result := .next (bitR8 4 .atHl 3 s)

/-- BIT 4,A (R183). -/
def execBit4A (s : State) : Result := .next (bitR8 4 (.reg .a) 2 s)

/-- BIT 5,B (R183). -/
def execBit5B (s : State) : Result := .next (bitR8 5 (.reg .b) 2 s)

/-- BIT 5,C (R183). -/
def execBit5C (s : State) : Result := .next (bitR8 5 (.reg .c) 2 s)

/-- BIT 5,D (R183). -/
def execBit5D (s : State) : Result := .next (bitR8 5 (.reg .d) 2 s)

/-- BIT 5,E (R183). -/
def execBit5E (s : State) : Result := .next (bitR8 5 (.reg .e) 2 s)

/-- BIT 5,H (R183). -/
def execBit5H (s : State) : Result := .next (bitR8 5 (.reg .h) 2 s)

/-- BIT 5,L (R183). -/
def execBit5L (s : State) : Result := .next (bitR8 5 (.reg .l) 2 s)

/-- BIT 5,(HL) (R183). -/
def execBit5AtHl (s : State) : Result := .next (bitR8 5 .atHl 3 s)

/-- BIT 5,A (R183). -/
def execBit5A (s : State) : Result := .next (bitR8 5 (.reg .a) 2 s)

/-- BIT 6,B (R183). -/
def execBit6B (s : State) : Result := .next (bitR8 6 (.reg .b) 2 s)

/-- BIT 6,C (R183). -/
def execBit6C (s : State) : Result := .next (bitR8 6 (.reg .c) 2 s)

/-- BIT 6,D (R183). -/
def execBit6D (s : State) : Result := .next (bitR8 6 (.reg .d) 2 s)

/-- BIT 6,E (R183). -/
def execBit6E (s : State) : Result := .next (bitR8 6 (.reg .e) 2 s)

/-- BIT 6,H (R183). -/
def execBit6H (s : State) : Result := .next (bitR8 6 (.reg .h) 2 s)

/-- BIT 6,L (R183). -/
def execBit6L (s : State) : Result := .next (bitR8 6 (.reg .l) 2 s)

/-- BIT 6,(HL) (R183). -/
def execBit6AtHl (s : State) : Result := .next (bitR8 6 .atHl 3 s)

/-- BIT 6,A (R183). -/
def execBit6A (s : State) : Result := .next (bitR8 6 (.reg .a) 2 s)

/-- BIT 7,B (R183). -/
def execBit7B (s : State) : Result := .next (bitR8 7 (.reg .b) 2 s)

/-- BIT 7,C (R183). -/
def execBit7C (s : State) : Result := .next (bitR8 7 (.reg .c) 2 s)

/-- BIT 7,D (R183). -/
def execBit7D (s : State) : Result := .next (bitR8 7 (.reg .d) 2 s)

/-- BIT 7,E (R183). -/
def execBit7E (s : State) : Result := .next (bitR8 7 (.reg .e) 2 s)

/-- BIT 7,H (R183). -/
def execBit7H (s : State) : Result := .next (bitR8 7 (.reg .h) 2 s)

/-- BIT 7,L (R183). -/
def execBit7L (s : State) : Result := .next (bitR8 7 (.reg .l) 2 s)

/-- BIT 7,(HL) (R183). -/
def execBit7AtHl (s : State) : Result := .next (bitR8 7 .atHl 3 s)

/-- BIT 7,A (R183). -/
def execBit7A (s : State) : Result := .next (bitR8 7 (.reg .a) 2 s)

/-- RES 0,B (R184). -/
def execRes0B (s : State) : Result := .next (resR8 0 (.reg .b) 2 s)

/-- RES 0,C (R184). -/
def execRes0C (s : State) : Result := .next (resR8 0 (.reg .c) 2 s)

/-- RES 0,D (R184). -/
def execRes0D (s : State) : Result := .next (resR8 0 (.reg .d) 2 s)

/-- RES 0,E (R184). -/
def execRes0E (s : State) : Result := .next (resR8 0 (.reg .e) 2 s)

/-- RES 0,H (R184). -/
def execRes0H (s : State) : Result := .next (resR8 0 (.reg .h) 2 s)

/-- RES 0,L (R184). -/
def execRes0L (s : State) : Result := .next (resR8 0 (.reg .l) 2 s)

/-- RES 0,(HL) (R184). -/
def execRes0AtHl (s : State) : Result := .next (resR8 0 .atHl 4 s)

/-- RES 0,A (R184). -/
def execRes0A (s : State) : Result := .next (resR8 0 (.reg .a) 2 s)

/-- RES 1,B (R184). -/
def execRes1B (s : State) : Result := .next (resR8 1 (.reg .b) 2 s)

/-- RES 1,C (R184). -/
def execRes1C (s : State) : Result := .next (resR8 1 (.reg .c) 2 s)

/-- RES 1,D (R184). -/
def execRes1D (s : State) : Result := .next (resR8 1 (.reg .d) 2 s)

/-- RES 1,E (R184). -/
def execRes1E (s : State) : Result := .next (resR8 1 (.reg .e) 2 s)

/-- RES 1,H (R184). -/
def execRes1H (s : State) : Result := .next (resR8 1 (.reg .h) 2 s)

/-- RES 1,L (R184). -/
def execRes1L (s : State) : Result := .next (resR8 1 (.reg .l) 2 s)

/-- RES 1,(HL) (R184). -/
def execRes1AtHl (s : State) : Result := .next (resR8 1 .atHl 4 s)

/-- RES 1,A (R184). -/
def execRes1A (s : State) : Result := .next (resR8 1 (.reg .a) 2 s)

/-- RES 2,B (R184). -/
def execRes2B (s : State) : Result := .next (resR8 2 (.reg .b) 2 s)

/-- RES 2,C (R184). -/
def execRes2C (s : State) : Result := .next (resR8 2 (.reg .c) 2 s)

/-- RES 2,D (R184). -/
def execRes2D (s : State) : Result := .next (resR8 2 (.reg .d) 2 s)

/-- RES 2,E (R184). -/
def execRes2E (s : State) : Result := .next (resR8 2 (.reg .e) 2 s)

/-- RES 2,H (R184). -/
def execRes2H (s : State) : Result := .next (resR8 2 (.reg .h) 2 s)

/-- RES 2,L (R184). -/
def execRes2L (s : State) : Result := .next (resR8 2 (.reg .l) 2 s)

/-- RES 2,(HL) (R184). -/
def execRes2AtHl (s : State) : Result := .next (resR8 2 .atHl 4 s)

/-- RES 2,A (R184). -/
def execRes2A (s : State) : Result := .next (resR8 2 (.reg .a) 2 s)

/-- RES 3,B (R184). -/
def execRes3B (s : State) : Result := .next (resR8 3 (.reg .b) 2 s)

/-- RES 3,C (R184). -/
def execRes3C (s : State) : Result := .next (resR8 3 (.reg .c) 2 s)

/-- RES 3,D (R184). -/
def execRes3D (s : State) : Result := .next (resR8 3 (.reg .d) 2 s)

/-- RES 3,E (R184). -/
def execRes3E (s : State) : Result := .next (resR8 3 (.reg .e) 2 s)

/-- RES 3,H (R184). -/
def execRes3H (s : State) : Result := .next (resR8 3 (.reg .h) 2 s)

/-- RES 3,L (R184). -/
def execRes3L (s : State) : Result := .next (resR8 3 (.reg .l) 2 s)

/-- RES 3,(HL) (R184). -/
def execRes3AtHl (s : State) : Result := .next (resR8 3 .atHl 4 s)

/-- RES 3,A (R184). -/
def execRes3A (s : State) : Result := .next (resR8 3 (.reg .a) 2 s)

/-- RES 4,B (R184). -/
def execRes4B (s : State) : Result := .next (resR8 4 (.reg .b) 2 s)

/-- RES 4,C (R184). -/
def execRes4C (s : State) : Result := .next (resR8 4 (.reg .c) 2 s)

/-- RES 4,D (R184). -/
def execRes4D (s : State) : Result := .next (resR8 4 (.reg .d) 2 s)

/-- RES 4,E (R184). -/
def execRes4E (s : State) : Result := .next (resR8 4 (.reg .e) 2 s)

/-- RES 4,H (R184). -/
def execRes4H (s : State) : Result := .next (resR8 4 (.reg .h) 2 s)

/-- RES 4,L (R184). -/
def execRes4L (s : State) : Result := .next (resR8 4 (.reg .l) 2 s)

/-- RES 4,(HL) (R184). -/
def execRes4AtHl (s : State) : Result := .next (resR8 4 .atHl 4 s)

/-- RES 4,A (R184). -/
def execRes4A (s : State) : Result := .next (resR8 4 (.reg .a) 2 s)

/-- RES 5,B (R184). -/
def execRes5B (s : State) : Result := .next (resR8 5 (.reg .b) 2 s)

/-- RES 5,C (R184). -/
def execRes5C (s : State) : Result := .next (resR8 5 (.reg .c) 2 s)

/-- RES 5,D (R184). -/
def execRes5D (s : State) : Result := .next (resR8 5 (.reg .d) 2 s)

/-- RES 5,E (R184). -/
def execRes5E (s : State) : Result := .next (resR8 5 (.reg .e) 2 s)

/-- RES 5,H (R184). -/
def execRes5H (s : State) : Result := .next (resR8 5 (.reg .h) 2 s)

/-- RES 5,L (R184). -/
def execRes5L (s : State) : Result := .next (resR8 5 (.reg .l) 2 s)

/-- RES 5,(HL) (R184). -/
def execRes5AtHl (s : State) : Result := .next (resR8 5 .atHl 4 s)

/-- RES 5,A (R184). -/
def execRes5A (s : State) : Result := .next (resR8 5 (.reg .a) 2 s)

/-- RES 6,B (R184). -/
def execRes6B (s : State) : Result := .next (resR8 6 (.reg .b) 2 s)

/-- RES 6,C (R184). -/
def execRes6C (s : State) : Result := .next (resR8 6 (.reg .c) 2 s)

/-- RES 6,D (R184). -/
def execRes6D (s : State) : Result := .next (resR8 6 (.reg .d) 2 s)

/-- RES 6,E (R184). -/
def execRes6E (s : State) : Result := .next (resR8 6 (.reg .e) 2 s)

/-- RES 6,H (R184). -/
def execRes6H (s : State) : Result := .next (resR8 6 (.reg .h) 2 s)

/-- RES 6,L (R184). -/
def execRes6L (s : State) : Result := .next (resR8 6 (.reg .l) 2 s)

/-- RES 6,(HL) (R184). -/
def execRes6AtHl (s : State) : Result := .next (resR8 6 .atHl 4 s)

/-- RES 6,A (R184). -/
def execRes6A (s : State) : Result := .next (resR8 6 (.reg .a) 2 s)

/-- RES 7,B (R184). -/
def execRes7B (s : State) : Result := .next (resR8 7 (.reg .b) 2 s)

/-- RES 7,C (R184). -/
def execRes7C (s : State) : Result := .next (resR8 7 (.reg .c) 2 s)

/-- RES 7,D (R184). -/
def execRes7D (s : State) : Result := .next (resR8 7 (.reg .d) 2 s)

/-- RES 7,E (R184). -/
def execRes7E (s : State) : Result := .next (resR8 7 (.reg .e) 2 s)

/-- RES 7,H (R184). -/
def execRes7H (s : State) : Result := .next (resR8 7 (.reg .h) 2 s)

/-- RES 7,L (R184). -/
def execRes7L (s : State) : Result := .next (resR8 7 (.reg .l) 2 s)

/-- RES 7,(HL) (R184). -/
def execRes7AtHl (s : State) : Result := .next (resR8 7 .atHl 4 s)

/-- RES 7,A (R184). -/
def execRes7A (s : State) : Result := .next (resR8 7 (.reg .a) 2 s)

/-- SET 0,B (R185). -/
def execSet0B (s : State) : Result := .next (setR8 0 (.reg .b) 2 s)

/-- SET 0,C (R185). -/
def execSet0C (s : State) : Result := .next (setR8 0 (.reg .c) 2 s)

/-- SET 0,D (R185). -/
def execSet0D (s : State) : Result := .next (setR8 0 (.reg .d) 2 s)

/-- SET 0,E (R185). -/
def execSet0E (s : State) : Result := .next (setR8 0 (.reg .e) 2 s)

/-- SET 0,H (R185). -/
def execSet0H (s : State) : Result := .next (setR8 0 (.reg .h) 2 s)

/-- SET 0,L (R185). -/
def execSet0L (s : State) : Result := .next (setR8 0 (.reg .l) 2 s)

/-- SET 0,(HL) (R185). -/
def execSet0AtHl (s : State) : Result := .next (setR8 0 .atHl 4 s)

/-- SET 0,A (R185). -/
def execSet0A (s : State) : Result := .next (setR8 0 (.reg .a) 2 s)

/-- SET 1,B (R185). -/
def execSet1B (s : State) : Result := .next (setR8 1 (.reg .b) 2 s)

/-- SET 1,C (R185). -/
def execSet1C (s : State) : Result := .next (setR8 1 (.reg .c) 2 s)

/-- SET 1,D (R185). -/
def execSet1D (s : State) : Result := .next (setR8 1 (.reg .d) 2 s)

/-- SET 1,E (R185). -/
def execSet1E (s : State) : Result := .next (setR8 1 (.reg .e) 2 s)

/-- SET 1,H (R185). -/
def execSet1H (s : State) : Result := .next (setR8 1 (.reg .h) 2 s)

/-- SET 1,L (R185). -/
def execSet1L (s : State) : Result := .next (setR8 1 (.reg .l) 2 s)

/-- SET 1,(HL) (R185). -/
def execSet1AtHl (s : State) : Result := .next (setR8 1 .atHl 4 s)

/-- SET 1,A (R185). -/
def execSet1A (s : State) : Result := .next (setR8 1 (.reg .a) 2 s)

/-- SET 2,B (R185). -/
def execSet2B (s : State) : Result := .next (setR8 2 (.reg .b) 2 s)

/-- SET 2,C (R185). -/
def execSet2C (s : State) : Result := .next (setR8 2 (.reg .c) 2 s)

/-- SET 2,D (R185). -/
def execSet2D (s : State) : Result := .next (setR8 2 (.reg .d) 2 s)

/-- SET 2,E (R185). -/
def execSet2E (s : State) : Result := .next (setR8 2 (.reg .e) 2 s)

/-- SET 2,H (R185). -/
def execSet2H (s : State) : Result := .next (setR8 2 (.reg .h) 2 s)

/-- SET 2,L (R185). -/
def execSet2L (s : State) : Result := .next (setR8 2 (.reg .l) 2 s)

/-- SET 2,(HL) (R185). -/
def execSet2AtHl (s : State) : Result := .next (setR8 2 .atHl 4 s)

/-- SET 2,A (R185). -/
def execSet2A (s : State) : Result := .next (setR8 2 (.reg .a) 2 s)

/-- SET 3,B (R185). -/
def execSet3B (s : State) : Result := .next (setR8 3 (.reg .b) 2 s)

/-- SET 3,C (R185). -/
def execSet3C (s : State) : Result := .next (setR8 3 (.reg .c) 2 s)

/-- SET 3,D (R185). -/
def execSet3D (s : State) : Result := .next (setR8 3 (.reg .d) 2 s)

/-- SET 3,E (R185). -/
def execSet3E (s : State) : Result := .next (setR8 3 (.reg .e) 2 s)

/-- SET 3,H (R185). -/
def execSet3H (s : State) : Result := .next (setR8 3 (.reg .h) 2 s)

/-- SET 3,L (R185). -/
def execSet3L (s : State) : Result := .next (setR8 3 (.reg .l) 2 s)

/-- SET 3,(HL) (R185). -/
def execSet3AtHl (s : State) : Result := .next (setR8 3 .atHl 4 s)

/-- SET 3,A (R185). -/
def execSet3A (s : State) : Result := .next (setR8 3 (.reg .a) 2 s)

/-- SET 4,B (R185). -/
def execSet4B (s : State) : Result := .next (setR8 4 (.reg .b) 2 s)

/-- SET 4,C (R185). -/
def execSet4C (s : State) : Result := .next (setR8 4 (.reg .c) 2 s)

/-- SET 4,D (R185). -/
def execSet4D (s : State) : Result := .next (setR8 4 (.reg .d) 2 s)

/-- SET 4,E (R185). -/
def execSet4E (s : State) : Result := .next (setR8 4 (.reg .e) 2 s)

/-- SET 4,H (R185). -/
def execSet4H (s : State) : Result := .next (setR8 4 (.reg .h) 2 s)

/-- SET 4,L (R185). -/
def execSet4L (s : State) : Result := .next (setR8 4 (.reg .l) 2 s)

/-- SET 4,(HL) (R185). -/
def execSet4AtHl (s : State) : Result := .next (setR8 4 .atHl 4 s)

/-- SET 4,A (R185). -/
def execSet4A (s : State) : Result := .next (setR8 4 (.reg .a) 2 s)

/-- SET 5,B (R185). -/
def execSet5B (s : State) : Result := .next (setR8 5 (.reg .b) 2 s)

/-- SET 5,C (R185). -/
def execSet5C (s : State) : Result := .next (setR8 5 (.reg .c) 2 s)

/-- SET 5,D (R185). -/
def execSet5D (s : State) : Result := .next (setR8 5 (.reg .d) 2 s)

/-- SET 5,E (R185). -/
def execSet5E (s : State) : Result := .next (setR8 5 (.reg .e) 2 s)

/-- SET 5,H (R185). -/
def execSet5H (s : State) : Result := .next (setR8 5 (.reg .h) 2 s)

/-- SET 5,L (R185). -/
def execSet5L (s : State) : Result := .next (setR8 5 (.reg .l) 2 s)

/-- SET 5,(HL) (R185). -/
def execSet5AtHl (s : State) : Result := .next (setR8 5 .atHl 4 s)

/-- SET 5,A (R185). -/
def execSet5A (s : State) : Result := .next (setR8 5 (.reg .a) 2 s)

/-- SET 6,B (R185). -/
def execSet6B (s : State) : Result := .next (setR8 6 (.reg .b) 2 s)

/-- SET 6,C (R185). -/
def execSet6C (s : State) : Result := .next (setR8 6 (.reg .c) 2 s)

/-- SET 6,D (R185). -/
def execSet6D (s : State) : Result := .next (setR8 6 (.reg .d) 2 s)

/-- SET 6,E (R185). -/
def execSet6E (s : State) : Result := .next (setR8 6 (.reg .e) 2 s)

/-- SET 6,H (R185). -/
def execSet6H (s : State) : Result := .next (setR8 6 (.reg .h) 2 s)

/-- SET 6,L (R185). -/
def execSet6L (s : State) : Result := .next (setR8 6 (.reg .l) 2 s)

/-- SET 6,(HL) (R185). -/
def execSet6AtHl (s : State) : Result := .next (setR8 6 .atHl 4 s)

/-- SET 6,A (R185). -/
def execSet6A (s : State) : Result := .next (setR8 6 (.reg .a) 2 s)

/-- SET 7,B (R185). -/
def execSet7B (s : State) : Result := .next (setR8 7 (.reg .b) 2 s)

/-- SET 7,C (R185). -/
def execSet7C (s : State) : Result := .next (setR8 7 (.reg .c) 2 s)

/-- SET 7,D (R185). -/
def execSet7D (s : State) : Result := .next (setR8 7 (.reg .d) 2 s)

/-- SET 7,E (R185). -/
def execSet7E (s : State) : Result := .next (setR8 7 (.reg .e) 2 s)

/-- SET 7,H (R185). -/
def execSet7H (s : State) : Result := .next (setR8 7 (.reg .h) 2 s)

/-- SET 7,L (R185). -/
def execSet7L (s : State) : Result := .next (setR8 7 (.reg .l) 2 s)

/-- SET 7,(HL) (R185). -/
def execSet7AtHl (s : State) : Result := .next (setR8 7 .atHl 4 s)

/-- SET 7,A (R185). -/
def execSet7A (s : State) : Result := .next (setR8 7 (.reg .a) 2 s)

end Sys2Proof.Machine
end

