-- ==== Sys2Proof/WellFormed.lean ====
section
/-! DEFINITION. Which terms of `Instr` are instructions. Every operand is exactly as wide as its encoding field (R71, R78 to R83),
so nothing else is left to check than R275: the prefix byte 0xCB alone is not an instruction. -/

namespace Sys2Proof

/-- R275: "PREFIX CB is not an instruction". Every other row, the UNUSED ones among them, is one the decoder answers. -/
def Instr.wellFormed : Instr → Bool
  | .prefixCb => false
  | _ => true

end Sys2Proof
end

