-- ==== Sys2Proof/Decode.lean ====
section
/-! DEFINITION. The decoder and the encoder (spec 30_encoding.md). The decoder is built on the descriptor tables of R89: the
unprefixed table laid out as the map of R84 (row = high nibble, column = low nibble) with each row's length and durations from
spec/opcode_table.json, and the 0xCB table by the fields of R85. `decode` is total on any list of bytes: it answers an
instruction and the bytes left, or says by name why there is none. `encode` is written row by row from the `encoding` and
`match` columns of the table, and shares no definition with the decoder. -/

namespace Sys2Proof

/-- What a descriptor's operand bytes are (R70, R71): none, one (n8 or e8), two (n16), or, for the prefix, a second opcode byte. -/
inductive Slot where
  | op (i : Instr)
  | imm8 (mk : Byte → Instr)
  | imm16 (mk : Word → Instr)
  | cbPrefix

/-- A descriptor (R89): the operation with its operand bytes, byte length, base duration, and the alternate duration that only
the conditional JP, JR, CALL and RET have (R90). -/
structure Descriptor where
  slot           : Slot
  length         : Nat
  cycles         : Nat
  cyclesNotTaken : Option Nat

/-- Why a list of bytes holds no instruction. -/
inductive DecodeError where
  /-- No byte at all. -/
  | noOpcode
  /-- The opcode's operand bytes, or the byte after the prefix 0xCB, are missing. -/
  | truncated (op : Byte)
  deriving DecidableEq, Repr

/-- Row 0x of the map of R84. -/
def unprefixedRow0 : List Descriptor :=
  [⟨.op .nop, 1, 1, none⟩, ⟨.imm16 .ldBcN16, 3, 3, none⟩, ⟨.op .ldAtBcA, 1, 2, none⟩, ⟨.op .incBc, 1, 2, none⟩,
   ⟨.op .incB, 1, 1, none⟩, ⟨.op .decB, 1, 1, none⟩, ⟨.imm8 .ldBN8, 2, 2, none⟩, ⟨.op .rlca, 1, 1, none⟩,
   ⟨.imm16 .ldAtN16Sp, 3, 5, none⟩, ⟨.op .addHlBc, 1, 2, none⟩, ⟨.op .ldAAtBc, 1, 2, none⟩, ⟨.op .decBc, 1, 2, none⟩,
   ⟨.op .incC, 1, 1, none⟩, ⟨.op .decC, 1, 1, none⟩, ⟨.imm8 .ldCN8, 2, 2, none⟩, ⟨.op .rrca, 1, 1, none⟩]

/-- Row 1x of the map of R84. -/
def unprefixedRow1 : List Descriptor :=
  [⟨.imm8 .stop, 2, 1, none⟩, ⟨.imm16 .ldDeN16, 3, 3, none⟩, ⟨.op .ldAtDeA, 1, 2, none⟩, ⟨.op .incDe, 1, 2, none⟩,
   ⟨.op .incD, 1, 1, none⟩, ⟨.op .decD, 1, 1, none⟩, ⟨.imm8 .ldDN8, 2, 2, none⟩, ⟨.op .rla, 1, 1, none⟩,
   ⟨.imm8 .jrE8, 2, 3, none⟩, ⟨.op .addHlDe, 1, 2, none⟩, ⟨.op .ldAAtDe, 1, 2, none⟩, ⟨.op .decDe, 1, 2, none⟩,
   ⟨.op .incE, 1, 1, none⟩, ⟨.op .decE, 1, 1, none⟩, ⟨.imm8 .ldEN8, 2, 2, none⟩, ⟨.op .rra, 1, 1, none⟩]

/-- Row 2x of the map of R84. -/
def unprefixedRow2 : List Descriptor :=
  [⟨.imm8 .jrNzE8, 2, 3, some 2⟩, ⟨.imm16 .ldHlN16, 3, 3, none⟩, ⟨.op .ldAtHliA, 1, 2, none⟩, ⟨.op .incHl, 1, 2, none⟩,
   ⟨.op .incH, 1, 1, none⟩, ⟨.op .decH, 1, 1, none⟩, ⟨.imm8 .ldHN8, 2, 2, none⟩, ⟨.op .daa, 1, 1, none⟩,
   ⟨.imm8 .jrZE8, 2, 3, some 2⟩, ⟨.op .addHlHl, 1, 2, none⟩, ⟨.op .ldAAtHli, 1, 2, none⟩, ⟨.op .decHl, 1, 2, none⟩,
   ⟨.op .incL, 1, 1, none⟩, ⟨.op .decL, 1, 1, none⟩, ⟨.imm8 .ldLN8, 2, 2, none⟩, ⟨.op .cpl, 1, 1, none⟩]

/-- Row 3x of the map of R84. -/
def unprefixedRow3 : List Descriptor :=
  [⟨.imm8 .jrNcE8, 2, 3, some 2⟩, ⟨.imm16 .ldSpN16, 3, 3, none⟩, ⟨.op .ldAtHldA, 1, 2, none⟩, ⟨.op .incSp, 1, 2, none⟩,
   ⟨.op .incAtHl, 1, 3, none⟩, ⟨.op .decAtHl, 1, 3, none⟩, ⟨.imm8 .ldAtHlN8, 2, 3, none⟩, ⟨.op .scf, 1, 1, none⟩,
   ⟨.imm8 .jrCE8, 2, 3, some 2⟩, ⟨.op .addHlSp, 1, 2, none⟩, ⟨.op .ldAAtHld, 1, 2, none⟩, ⟨.op .decSp, 1, 2, none⟩,
   ⟨.op .incA, 1, 1, none⟩, ⟨.op .decA, 1, 1, none⟩, ⟨.imm8 .ldAN8, 2, 2, none⟩, ⟨.op .ccf, 1, 1, none⟩]

/-- Row 4x of the map of R84. -/
def unprefixedRow4 : List Descriptor :=
  [⟨.op .ldBB, 1, 1, none⟩, ⟨.op .ldBC, 1, 1, none⟩, ⟨.op .ldBD, 1, 1, none⟩, ⟨.op .ldBE, 1, 1, none⟩,
   ⟨.op .ldBH, 1, 1, none⟩, ⟨.op .ldBL, 1, 1, none⟩, ⟨.op .ldBAtHl, 1, 2, none⟩, ⟨.op .ldBA, 1, 1, none⟩,
   ⟨.op .ldCB, 1, 1, none⟩, ⟨.op .ldCC, 1, 1, none⟩, ⟨.op .ldCD, 1, 1, none⟩, ⟨.op .ldCE, 1, 1, none⟩,
   ⟨.op .ldCH, 1, 1, none⟩, ⟨.op .ldCL, 1, 1, none⟩, ⟨.op .ldCAtHl, 1, 2, none⟩, ⟨.op .ldCA, 1, 1, none⟩]

/-- Row 5x of the map of R84. -/
def unprefixedRow5 : List Descriptor :=
  [⟨.op .ldDB, 1, 1, none⟩, ⟨.op .ldDC, 1, 1, none⟩, ⟨.op .ldDD, 1, 1, none⟩, ⟨.op .ldDE, 1, 1, none⟩,
   ⟨.op .ldDH, 1, 1, none⟩, ⟨.op .ldDL, 1, 1, none⟩, ⟨.op .ldDAtHl, 1, 2, none⟩, ⟨.op .ldDA, 1, 1, none⟩,
   ⟨.op .ldEB, 1, 1, none⟩, ⟨.op .ldEC, 1, 1, none⟩, ⟨.op .ldED, 1, 1, none⟩, ⟨.op .ldEE, 1, 1, none⟩,
   ⟨.op .ldEH, 1, 1, none⟩, ⟨.op .ldEL, 1, 1, none⟩, ⟨.op .ldEAtHl, 1, 2, none⟩, ⟨.op .ldEA, 1, 1, none⟩]

/-- Row 6x of the map of R84. -/
def unprefixedRow6 : List Descriptor :=
  [⟨.op .ldHB, 1, 1, none⟩, ⟨.op .ldHC, 1, 1, none⟩, ⟨.op .ldHD, 1, 1, none⟩, ⟨.op .ldHE, 1, 1, none⟩,
   ⟨.op .ldHH, 1, 1, none⟩, ⟨.op .ldHL, 1, 1, none⟩, ⟨.op .ldHAtHl, 1, 2, none⟩, ⟨.op .ldHA, 1, 1, none⟩,
   ⟨.op .ldLB, 1, 1, none⟩, ⟨.op .ldLC, 1, 1, none⟩, ⟨.op .ldLD, 1, 1, none⟩, ⟨.op .ldLE, 1, 1, none⟩,
   ⟨.op .ldLH, 1, 1, none⟩, ⟨.op .ldLL, 1, 1, none⟩, ⟨.op .ldLAtHl, 1, 2, none⟩, ⟨.op .ldLA, 1, 1, none⟩]

/-- Row 7x of the map of R84. -/
def unprefixedRow7 : List Descriptor :=
  [⟨.op .ldAtHlB, 1, 2, none⟩, ⟨.op .ldAtHlC, 1, 2, none⟩, ⟨.op .ldAtHlD, 1, 2, none⟩, ⟨.op .ldAtHlE, 1, 2, none⟩,
   ⟨.op .ldAtHlH, 1, 2, none⟩, ⟨.op .ldAtHlL, 1, 2, none⟩, ⟨.op .halt, 1, 1, none⟩, ⟨.op .ldAtHlA, 1, 2, none⟩,
   ⟨.op .ldAB, 1, 1, none⟩, ⟨.op .ldAC, 1, 1, none⟩, ⟨.op .ldAD, 1, 1, none⟩, ⟨.op .ldAE, 1, 1, none⟩,
   ⟨.op .ldAH, 1, 1, none⟩, ⟨.op .ldAL, 1, 1, none⟩, ⟨.op .ldAAtHl, 1, 2, none⟩, ⟨.op .ldAA, 1, 1, none⟩]

/-- Row 8x of the map of R84. -/
def unprefixedRow8 : List Descriptor :=
  [⟨.op .addAB, 1, 1, none⟩, ⟨.op .addAC, 1, 1, none⟩, ⟨.op .addAD, 1, 1, none⟩, ⟨.op .addAE, 1, 1, none⟩,
   ⟨.op .addAH, 1, 1, none⟩, ⟨.op .addAL, 1, 1, none⟩, ⟨.op .addAAtHl, 1, 2, none⟩, ⟨.op .addAA, 1, 1, none⟩,
   ⟨.op .adcAB, 1, 1, none⟩, ⟨.op .adcAC, 1, 1, none⟩, ⟨.op .adcAD, 1, 1, none⟩, ⟨.op .adcAE, 1, 1, none⟩,
   ⟨.op .adcAH, 1, 1, none⟩, ⟨.op .adcAL, 1, 1, none⟩, ⟨.op .adcAAtHl, 1, 2, none⟩, ⟨.op .adcAA, 1, 1, none⟩]

/-- Row 9x of the map of R84. -/
def unprefixedRow9 : List Descriptor :=
  [⟨.op .subAB, 1, 1, none⟩, ⟨.op .subAC, 1, 1, none⟩, ⟨.op .subAD, 1, 1, none⟩, ⟨.op .subAE, 1, 1, none⟩,
   ⟨.op .subAH, 1, 1, none⟩, ⟨.op .subAL, 1, 1, none⟩, ⟨.op .subAAtHl, 1, 2, none⟩, ⟨.op .subAA, 1, 1, none⟩,
   ⟨.op .sbcAB, 1, 1, none⟩, ⟨.op .sbcAC, 1, 1, none⟩, ⟨.op .sbcAD, 1, 1, none⟩, ⟨.op .sbcAE, 1, 1, none⟩,
   ⟨.op .sbcAH, 1, 1, none⟩, ⟨.op .sbcAL, 1, 1, none⟩, ⟨.op .sbcAAtHl, 1, 2, none⟩, ⟨.op .sbcAA, 1, 1, none⟩]

/-- Row Ax of the map of R84. -/
def unprefixedRowA : List Descriptor :=
  [⟨.op .andAB, 1, 1, none⟩, ⟨.op .andAC, 1, 1, none⟩, ⟨.op .andAD, 1, 1, none⟩, ⟨.op .andAE, 1, 1, none⟩,
   ⟨.op .andAH, 1, 1, none⟩, ⟨.op .andAL, 1, 1, none⟩, ⟨.op .andAAtHl, 1, 2, none⟩, ⟨.op .andAA, 1, 1, none⟩,
   ⟨.op .xorAB, 1, 1, none⟩, ⟨.op .xorAC, 1, 1, none⟩, ⟨.op .xorAD, 1, 1, none⟩, ⟨.op .xorAE, 1, 1, none⟩,
   ⟨.op .xorAH, 1, 1, none⟩, ⟨.op .xorAL, 1, 1, none⟩, ⟨.op .xorAAtHl, 1, 2, none⟩, ⟨.op .xorAA, 1, 1, none⟩]

/-- Row Bx of the map of R84. -/
def unprefixedRowB : List Descriptor :=
  [⟨.op .orAB, 1, 1, none⟩, ⟨.op .orAC, 1, 1, none⟩, ⟨.op .orAD, 1, 1, none⟩, ⟨.op .orAE, 1, 1, none⟩,
   ⟨.op .orAH, 1, 1, none⟩, ⟨.op .orAL, 1, 1, none⟩, ⟨.op .orAAtHl, 1, 2, none⟩, ⟨.op .orAA, 1, 1, none⟩,
   ⟨.op .cpAB, 1, 1, none⟩, ⟨.op .cpAC, 1, 1, none⟩, ⟨.op .cpAD, 1, 1, none⟩, ⟨.op .cpAE, 1, 1, none⟩,
   ⟨.op .cpAH, 1, 1, none⟩, ⟨.op .cpAL, 1, 1, none⟩, ⟨.op .cpAAtHl, 1, 2, none⟩, ⟨.op .cpAA, 1, 1, none⟩]

/-- Row Cx of the map of R84. -/
def unprefixedRowC : List Descriptor :=
  [⟨.op .retNz, 1, 5, some 2⟩, ⟨.op .popBc, 1, 3, none⟩, ⟨.imm16 .jpNzN16, 3, 4, some 3⟩, ⟨.imm16 .jpN16, 3, 4, none⟩,
   ⟨.imm16 .callNzN16, 3, 6, some 3⟩, ⟨.op .pushBc, 1, 4, none⟩, ⟨.imm8 .addAN8, 2, 2, none⟩, ⟨.op .rst00, 1, 4, none⟩,
   ⟨.op .retZ, 1, 5, some 2⟩, ⟨.op .ret, 1, 4, none⟩, ⟨.imm16 .jpZN16, 3, 4, some 3⟩, ⟨.cbPrefix, 1, 0, none⟩,
   ⟨.imm16 .callZN16, 3, 6, some 3⟩, ⟨.imm16 .callN16, 3, 6, none⟩, ⟨.imm8 .adcAN8, 2, 2, none⟩, ⟨.op .rst08, 1, 4, none⟩]

/-- Row Dx of the map of R84. -/
def unprefixedRowD : List Descriptor :=
  [⟨.op .retNc, 1, 5, some 2⟩, ⟨.op .popDe, 1, 3, none⟩, ⟨.imm16 .jpNcN16, 3, 4, some 3⟩, ⟨.op .unusedD3, 0, 0, none⟩,
   ⟨.imm16 .callNcN16, 3, 6, some 3⟩, ⟨.op .pushDe, 1, 4, none⟩, ⟨.imm8 .subAN8, 2, 2, none⟩, ⟨.op .rst10, 1, 4, none⟩,
   ⟨.op .retC, 1, 5, some 2⟩, ⟨.op .reti, 1, 4, none⟩, ⟨.imm16 .jpCN16, 3, 4, some 3⟩, ⟨.op .unusedDB, 0, 0, none⟩,
   ⟨.imm16 .callCN16, 3, 6, some 3⟩, ⟨.op .unusedDD, 0, 0, none⟩, ⟨.imm8 .sbcAN8, 2, 2, none⟩, ⟨.op .rst18, 1, 4, none⟩]

/-- Row Ex of the map of R84. -/
def unprefixedRowE : List Descriptor :=
  [⟨.imm8 .ldhAtN8A, 2, 3, none⟩, ⟨.op .popHl, 1, 3, none⟩, ⟨.op .ldhAtCA, 1, 2, none⟩, ⟨.op .unusedE3, 0, 0, none⟩,
   ⟨.op .unusedE4, 0, 0, none⟩, ⟨.op .pushHl, 1, 4, none⟩, ⟨.imm8 .andAN8, 2, 2, none⟩, ⟨.op .rst20, 1, 4, none⟩,
   ⟨.imm8 .addSpE8, 2, 4, none⟩, ⟨.op .jpHl, 1, 1, none⟩, ⟨.imm16 .ldAtN16A, 3, 4, none⟩, ⟨.op .unusedEB, 0, 0, none⟩,
   ⟨.op .unusedEC, 0, 0, none⟩, ⟨.op .unusedED, 0, 0, none⟩, ⟨.imm8 .xorAN8, 2, 2, none⟩, ⟨.op .rst28, 1, 4, none⟩]

/-- Row Fx of the map of R84. -/
def unprefixedRowF : List Descriptor :=
  [⟨.imm8 .ldhAAtN8, 2, 3, none⟩, ⟨.op .popAf, 1, 3, none⟩, ⟨.op .ldhAAtC, 1, 2, none⟩, ⟨.op .di, 1, 1, none⟩,
   ⟨.op .unusedF4, 0, 0, none⟩, ⟨.op .pushAf, 1, 4, none⟩, ⟨.imm8 .orAN8, 2, 2, none⟩, ⟨.op .rst30, 1, 4, none⟩,
   ⟨.imm8 .ldHlSpE8, 2, 3, none⟩, ⟨.op .ldSpHl, 1, 2, none⟩, ⟨.imm16 .ldAAtN16, 3, 4, none⟩, ⟨.op .ei, 1, 1, none⟩,
   ⟨.op .unusedFC, 0, 0, none⟩, ⟨.op .unusedFD, 0, 0, none⟩, ⟨.imm8 .cpAN8, 2, 2, none⟩, ⟨.op .rst38, 1, 4, none⟩]

/-- The unprefixed map of R84, row by row. -/
def unprefixedMap : List (List Descriptor) :=
  [unprefixedRow0, unprefixedRow1, unprefixedRow2, unprefixedRow3, unprefixedRow4, unprefixedRow5, unprefixedRow6,
   unprefixedRow7, unprefixedRow8, unprefixedRow9, unprefixedRowA, unprefixedRowB, unprefixedRowC, unprefixedRowD,
   unprefixedRowE, unprefixedRowF]

/-- The descriptor of an unprefixed opcode (R84, R89). The map has a cell for each of the 256 bytes, so the value for a missing
cell is never used. -/
def unprefixedDescriptor (op : Byte) : Descriptor :=
  (unprefixedMap.getD (op.toNat / 16) []).getD (op.toNat % 16) ⟨.op .nop, 1, 1, none⟩

/-- The r8 of a 3-bit code (R73). -/
def R8.ofCode : Nat → R8
  | 0 => .reg .b | 1 => .reg .c | 2 => .reg .d | 3 => .reg .e | 4 => .reg .h | 5 => .reg .l | 6 => .atHl | _ => .reg .a

/-- The rotate or shift of the field `y` (R85). -/
def RotOp.ofCode : Nat → RotOp
  | 0 => .rlc | 1 => .rrc | 2 => .rl | 3 => .rr | 4 => .sla | 5 => .sra | 6 => .swap | _ => .srl

/-- Field `x = op[7:6]` (R72). -/
def fieldX (op : Byte) : Nat := op.toNat / 64

/-- Field `y = op[5:3]` (R72). -/
def fieldY (op : Byte) : Nat := op.toNat / 8 % 8

/-- Field `z = op[2:0]` (R72). -/
def fieldZ (op : Byte) : Nat := op.toNat % 8

/-- The instruction of the byte after 0xCB, by the fields of R85. -/
def cbInstr (op : Byte) : Instr :=
  match fieldX op with
  | 0 => .ofRot (RotOp.ofCode (fieldY op)) (R8.ofCode (fieldZ op))
  | 1 => .ofBit (Fin.ofNat 8 (fieldY op)) (R8.ofCode (fieldZ op))
  | 2 => .ofRes (Fin.ofNat 8 (fieldY op)) (R8.ofCode (fieldZ op))
  | _ => .ofSet (Fin.ofNat 8 (fieldY op)) (R8.ofCode (fieldZ op))

/-- The duration of the instruction of the byte after 0xCB (R174): 2 M-cycles on a register; on (HL), 3 for BIT and 4 for the rest. -/
def cbCycles (op : Byte) : Nat :=
  if fieldZ op = 6 then (if fieldX op = 1 then 3 else 4) else 2

/-- The descriptor of the byte after 0xCB: two bytes in all (R70). -/
def cbDescriptor (op : Byte) : Descriptor := ⟨.op (cbInstr op), 2, cbCycles op, none⟩

/-- Decoding (R70, R71, R84, R85, R88): the instruction the bytes begin with and the bytes after it, or why there is none. An
UNUSED opcode decodes to its own row (R86), whose meaning raises the fault. -/
def decode : List Byte → Except DecodeError (Instr × List Byte)
  | [] => .error .noOpcode
  | op :: rest =>
    match (unprefixedDescriptor op).slot with
    | .op i => .ok (i, rest)
    | .imm8 mk =>
      match rest with
      | n :: rest' => .ok (mk n, rest')
      | [] => .error (.truncated op)
    | .imm16 mk =>
      match rest with
      | lo :: hi :: rest' => .ok (mk (joinBytes hi lo), rest')
      | _ => .error (.truncated op)
    | .cbPrefix =>
      match rest with
      | op2 :: rest' => .ok (cbInstr op2, rest')
      | [] => .error (.truncated op)

/-- The three bytes, lowest address first, of an instruction that spec/opcode_table.json writes as the number `w` of `nbits` bits,
every bit above them zero. A row of two opcode bytes is numbered there with the prefix 0xCB in bits 15..8 (`match` 0xCB00 for
RLC B), every other row with its first byte in bits 7..0 (log 13). -/
def tableBytes (nbits w : Nat) : List Byte :=
  let v := w % 2 ^ nbits
  if nbits = 16 ∧ v / 256 = 0xCB then [0xCB#8, BitVec.ofNat 8 v, 0x00#8]
  else [BitVec.ofNat 8 v, BitVec.ofNat 8 (v / 256), BitVec.ofNat 8 (v / 65536)]

/-- What the decoder reads from a word of the table's numbering. -/
def decodeTableWord (nbits w : Nat) : Option Instr :=
  match decode (tableBytes nbits w) with
  | .ok (i, _) => some i
  | .error _ => none

/-- The bytes of an instruction (R71, R84, R85), lowest address first. -/
def encode : Instr → List Byte
  | .nop => [0x00#8]
  | .ldBcN16 n => [0x01#8, loByte n, hiByte n]
  | .ldAtBcA => [0x02#8]
  | .incBc => [0x03#8]
  | .incB => [0x04#8]
  | .decB => [0x05#8]
  | .ldBN8 n => [0x06#8, n]
  | .rlca => [0x07#8]
  | .ldAtN16Sp n => [0x08#8, loByte n, hiByte n]
  | .addHlBc => [0x09#8]
  | .ldAAtBc => [0x0A#8]
  | .decBc => [0x0B#8]
  | .incC => [0x0C#8]
  | .decC => [0x0D#8]
  | .ldCN8 n => [0x0E#8, n]
  | .rrca => [0x0F#8]
  | .stop n => [0x10#8, n]
  | .ldDeN16 n => [0x11#8, loByte n, hiByte n]
  | .ldAtDeA => [0x12#8]
  | .incDe => [0x13#8]
  | .incD => [0x14#8]
  | .decD => [0x15#8]
  | .ldDN8 n => [0x16#8, n]
  | .rla => [0x17#8]
  | .jrE8 e => [0x18#8, e]
  | .addHlDe => [0x19#8]
  | .ldAAtDe => [0x1A#8]
  | .decDe => [0x1B#8]
  | .incE => [0x1C#8]
  | .decE => [0x1D#8]
  | .ldEN8 n => [0x1E#8, n]
  | .rra => [0x1F#8]
  | .jrNzE8 e => [0x20#8, e]
  | .ldHlN16 n => [0x21#8, loByte n, hiByte n]
  | .ldAtHliA => [0x22#8]
  | .incHl => [0x23#8]
  | .incH => [0x24#8]
  | .decH => [0x25#8]
  | .ldHN8 n => [0x26#8, n]
  | .daa => [0x27#8]
  | .jrZE8 e => [0x28#8, e]
  | .addHlHl => [0x29#8]
  | .ldAAtHli => [0x2A#8]
  | .decHl => [0x2B#8]
  | .incL => [0x2C#8]
  | .decL => [0x2D#8]
  | .ldLN8 n => [0x2E#8, n]
  | .cpl => [0x2F#8]
  | .jrNcE8 e => [0x30#8, e]
  | .ldSpN16 n => [0x31#8, loByte n, hiByte n]
  | .ldAtHldA => [0x32#8]
  | .incSp => [0x33#8]
  | .incAtHl => [0x34#8]
  | .decAtHl => [0x35#8]
  | .ldAtHlN8 n => [0x36#8, n]
  | .scf => [0x37#8]
  | .jrCE8 e => [0x38#8, e]
  | .addHlSp => [0x39#8]
  | .ldAAtHld => [0x3A#8]
  | .decSp => [0x3B#8]
  | .incA => [0x3C#8]
  | .decA => [0x3D#8]
  | .ldAN8 n => [0x3E#8, n]
  | .ccf => [0x3F#8]
  | .ldBB => [0x40#8]
  | .ldBC => [0x41#8]
  | .ldBD => [0x42#8]
  | .ldBE => [0x43#8]
  | .ldBH => [0x44#8]
  | .ldBL => [0x45#8]
  | .ldBAtHl => [0x46#8]
  | .ldBA => [0x47#8]
  | .ldCB => [0x48#8]
  | .ldCC => [0x49#8]
  | .ldCD => [0x4A#8]
  | .ldCE => [0x4B#8]
  | .ldCH => [0x4C#8]
  | .ldCL => [0x4D#8]
  | .ldCAtHl => [0x4E#8]
  | .ldCA => [0x4F#8]
  | .ldDB => [0x50#8]
  | .ldDC => [0x51#8]
  | .ldDD => [0x52#8]
  | .ldDE => [0x53#8]
  | .ldDH => [0x54#8]
  | .ldDL => [0x55#8]
  | .ldDAtHl => [0x56#8]
  | .ldDA => [0x57#8]
  | .ldEB => [0x58#8]
  | .ldEC => [0x59#8]
  | .ldED => [0x5A#8]
  | .ldEE => [0x5B#8]
  | .ldEH => [0x5C#8]
  | .ldEL => [0x5D#8]
  | .ldEAtHl => [0x5E#8]
  | .ldEA => [0x5F#8]
  | .ldHB => [0x60#8]
  | .ldHC => [0x61#8]
  | .ldHD => [0x62#8]
  | .ldHE => [0x63#8]
  | .ldHH => [0x64#8]
  | .ldHL => [0x65#8]
  | .ldHAtHl => [0x66#8]
  | .ldHA => [0x67#8]
  | .ldLB => [0x68#8]
  | .ldLC => [0x69#8]
  | .ldLD => [0x6A#8]
  | .ldLE => [0x6B#8]
  | .ldLH => [0x6C#8]
  | .ldLL => [0x6D#8]
  | .ldLAtHl => [0x6E#8]
  | .ldLA => [0x6F#8]
  | .ldAtHlB => [0x70#8]
  | .ldAtHlC => [0x71#8]
  | .ldAtHlD => [0x72#8]
  | .ldAtHlE => [0x73#8]
  | .ldAtHlH => [0x74#8]
  | .ldAtHlL => [0x75#8]
  | .halt => [0x76#8]
  | .ldAtHlA => [0x77#8]
  | .ldAB => [0x78#8]
  | .ldAC => [0x79#8]
  | .ldAD => [0x7A#8]
  | .ldAE => [0x7B#8]
  | .ldAH => [0x7C#8]
  | .ldAL => [0x7D#8]
  | .ldAAtHl => [0x7E#8]
  | .ldAA => [0x7F#8]
  | .addAB => [0x80#8]
  | .addAC => [0x81#8]
  | .addAD => [0x82#8]
  | .addAE => [0x83#8]
  | .addAH => [0x84#8]
  | .addAL => [0x85#8]
  | .addAAtHl => [0x86#8]
  | .addAA => [0x87#8]
  | .adcAB => [0x88#8]
  | .adcAC => [0x89#8]
  | .adcAD => [0x8A#8]
  | .adcAE => [0x8B#8]
  | .adcAH => [0x8C#8]
  | .adcAL => [0x8D#8]
  | .adcAAtHl => [0x8E#8]
  | .adcAA => [0x8F#8]
  | .subAB => [0x90#8]
  | .subAC => [0x91#8]
  | .subAD => [0x92#8]
  | .subAE => [0x93#8]
  | .subAH => [0x94#8]
  | .subAL => [0x95#8]
  | .subAAtHl => [0x96#8]
  | .subAA => [0x97#8]
  | .sbcAB => [0x98#8]
  | .sbcAC => [0x99#8]
  | .sbcAD => [0x9A#8]
  | .sbcAE => [0x9B#8]
  | .sbcAH => [0x9C#8]
  | .sbcAL => [0x9D#8]
  | .sbcAAtHl => [0x9E#8]
  | .sbcAA => [0x9F#8]
  | .andAB => [0xA0#8]
  | .andAC => [0xA1#8]
  | .andAD => [0xA2#8]
  | .andAE => [0xA3#8]
  | .andAH => [0xA4#8]
  | .andAL => [0xA5#8]
  | .andAAtHl => [0xA6#8]
  | .andAA => [0xA7#8]
  | .xorAB => [0xA8#8]
  | .xorAC => [0xA9#8]
  | .xorAD => [0xAA#8]
  | .xorAE => [0xAB#8]
  | .xorAH => [0xAC#8]
  | .xorAL => [0xAD#8]
  | .xorAAtHl => [0xAE#8]
  | .xorAA => [0xAF#8]
  | .orAB => [0xB0#8]
  | .orAC => [0xB1#8]
  | .orAD => [0xB2#8]
  | .orAE => [0xB3#8]
  | .orAH => [0xB4#8]
  | .orAL => [0xB5#8]
  | .orAAtHl => [0xB6#8]
  | .orAA => [0xB7#8]
  | .cpAB => [0xB8#8]
  | .cpAC => [0xB9#8]
  | .cpAD => [0xBA#8]
  | .cpAE => [0xBB#8]
  | .cpAH => [0xBC#8]
  | .cpAL => [0xBD#8]
  | .cpAAtHl => [0xBE#8]
  | .cpAA => [0xBF#8]
  | .retNz => [0xC0#8]
  | .popBc => [0xC1#8]
  | .jpNzN16 n => [0xC2#8, loByte n, hiByte n]
  | .jpN16 n => [0xC3#8, loByte n, hiByte n]
  | .callNzN16 n => [0xC4#8, loByte n, hiByte n]
  | .pushBc => [0xC5#8]
  | .addAN8 n => [0xC6#8, n]
  | .rst00 => [0xC7#8]
  | .retZ => [0xC8#8]
  | .ret => [0xC9#8]
  | .jpZN16 n => [0xCA#8, loByte n, hiByte n]
  | .prefixCb => [0xCB#8]
  | .callZN16 n => [0xCC#8, loByte n, hiByte n]
  | .callN16 n => [0xCD#8, loByte n, hiByte n]
  | .adcAN8 n => [0xCE#8, n]
  | .rst08 => [0xCF#8]
  | .retNc => [0xD0#8]
  | .popDe => [0xD1#8]
  | .jpNcN16 n => [0xD2#8, loByte n, hiByte n]
  | .unusedD3 => [0xD3#8]
  | .callNcN16 n => [0xD4#8, loByte n, hiByte n]
  | .pushDe => [0xD5#8]
  | .subAN8 n => [0xD6#8, n]
  | .rst10 => [0xD7#8]
  | .retC => [0xD8#8]
  | .reti => [0xD9#8]
  | .jpCN16 n => [0xDA#8, loByte n, hiByte n]
  | .unusedDB => [0xDB#8]
  | .callCN16 n => [0xDC#8, loByte n, hiByte n]
  | .unusedDD => [0xDD#8]
  | .sbcAN8 n => [0xDE#8, n]
  | .rst18 => [0xDF#8]
  | .ldhAtN8A n => [0xE0#8, n]
  | .popHl => [0xE1#8]
  | .ldhAtCA => [0xE2#8]
  | .unusedE3 => [0xE3#8]
  | .unusedE4 => [0xE4#8]
  | .pushHl => [0xE5#8]
  | .andAN8 n => [0xE6#8, n]
  | .rst20 => [0xE7#8]
  | .addSpE8 e => [0xE8#8, e]
  | .jpHl => [0xE9#8]
  | .ldAtN16A n => [0xEA#8, loByte n, hiByte n]
  | .unusedEB => [0xEB#8]
  | .unusedEC => [0xEC#8]
  | .unusedED => [0xED#8]
  | .xorAN8 n => [0xEE#8, n]
  | .rst28 => [0xEF#8]
  | .ldhAAtN8 n => [0xF0#8, n]
  | .popAf => [0xF1#8]
  | .ldhAAtC => [0xF2#8]
  | .di => [0xF3#8]
  | .unusedF4 => [0xF4#8]
  | .pushAf => [0xF5#8]
  | .orAN8 n => [0xF6#8, n]
  | .rst30 => [0xF7#8]
  | .ldHlSpE8 e => [0xF8#8, e]
  | .ldSpHl => [0xF9#8]
  | .ldAAtN16 n => [0xFA#8, loByte n, hiByte n]
  | .ei => [0xFB#8]
  | .unusedFC => [0xFC#8]
  | .unusedFD => [0xFD#8]
  | .cpAN8 n => [0xFE#8, n]
  | .rst38 => [0xFF#8]
  | .rlcB => [0xCB#8, 0x00#8]
  | .rlcC => [0xCB#8, 0x01#8]
  | .rlcD => [0xCB#8, 0x02#8]
  | .rlcE => [0xCB#8, 0x03#8]
  | .rlcH => [0xCB#8, 0x04#8]
  | .rlcL => [0xCB#8, 0x05#8]
  | .rlcAtHl => [0xCB#8, 0x06#8]
  | .rlcA => [0xCB#8, 0x07#8]
  | .rrcB => [0xCB#8, 0x08#8]
  | .rrcC => [0xCB#8, 0x09#8]
  | .rrcD => [0xCB#8, 0x0A#8]
  | .rrcE => [0xCB#8, 0x0B#8]
  | .rrcH => [0xCB#8, 0x0C#8]
  | .rrcL => [0xCB#8, 0x0D#8]
  | .rrcAtHl => [0xCB#8, 0x0E#8]
  | .rrcA => [0xCB#8, 0x0F#8]
  | .rlB => [0xCB#8, 0x10#8]
  | .rlC => [0xCB#8, 0x11#8]
  | .rlD => [0xCB#8, 0x12#8]
  | .rlE => [0xCB#8, 0x13#8]
  | .rlH => [0xCB#8, 0x14#8]
  | .rlL => [0xCB#8, 0x15#8]
  | .rlAtHl => [0xCB#8, 0x16#8]
  | .rlA => [0xCB#8, 0x17#8]
  | .rrB => [0xCB#8, 0x18#8]
  | .rrC => [0xCB#8, 0x19#8]
  | .rrD => [0xCB#8, 0x1A#8]
  | .rrE => [0xCB#8, 0x1B#8]
  | .rrH => [0xCB#8, 0x1C#8]
  | .rrL => [0xCB#8, 0x1D#8]
  | .rrAtHl => [0xCB#8, 0x1E#8]
  | .rrA => [0xCB#8, 0x1F#8]
  | .slaB => [0xCB#8, 0x20#8]
  | .slaC => [0xCB#8, 0x21#8]
  | .slaD => [0xCB#8, 0x22#8]
  | .slaE => [0xCB#8, 0x23#8]
  | .slaH => [0xCB#8, 0x24#8]
  | .slaL => [0xCB#8, 0x25#8]
  | .slaAtHl => [0xCB#8, 0x26#8]
  | .slaA => [0xCB#8, 0x27#8]
  | .sraB => [0xCB#8, 0x28#8]
  | .sraC => [0xCB#8, 0x29#8]
  | .sraD => [0xCB#8, 0x2A#8]
  | .sraE => [0xCB#8, 0x2B#8]
  | .sraH => [0xCB#8, 0x2C#8]
  | .sraL => [0xCB#8, 0x2D#8]
  | .sraAtHl => [0xCB#8, 0x2E#8]
  | .sraA => [0xCB#8, 0x2F#8]
  | .swapB => [0xCB#8, 0x30#8]
  | .swapC => [0xCB#8, 0x31#8]
  | .swapD => [0xCB#8, 0x32#8]
  | .swapE => [0xCB#8, 0x33#8]
  | .swapH => [0xCB#8, 0x34#8]
  | .swapL => [0xCB#8, 0x35#8]
  | .swapAtHl => [0xCB#8, 0x36#8]
  | .swapA => [0xCB#8, 0x37#8]
  | .srlB => [0xCB#8, 0x38#8]
  | .srlC => [0xCB#8, 0x39#8]
  | .srlD => [0xCB#8, 0x3A#8]
  | .srlE => [0xCB#8, 0x3B#8]
  | .srlH => [0xCB#8, 0x3C#8]
  | .srlL => [0xCB#8, 0x3D#8]
  | .srlAtHl => [0xCB#8, 0x3E#8]
  | .srlA => [0xCB#8, 0x3F#8]
  | .bit0B => [0xCB#8, 0x40#8]
  | .bit0C => [0xCB#8, 0x41#8]
  | .bit0D => [0xCB#8, 0x42#8]
  | .bit0E => [0xCB#8, 0x43#8]
  | .bit0H => [0xCB#8, 0x44#8]
  | .bit0L => [0xCB#8, 0x45#8]
  | .bit0AtHl => [0xCB#8, 0x46#8]
  | .bit0A => [0xCB#8, 0x47#8]
  | .bit1B => [0xCB#8, 0x48#8]
  | .bit1C => [0xCB#8, 0x49#8]
  | .bit1D => [0xCB#8, 0x4A#8]
  | .bit1E => [0xCB#8, 0x4B#8]
  | .bit1H => [0xCB#8, 0x4C#8]
  | .bit1L => [0xCB#8, 0x4D#8]
  | .bit1AtHl => [0xCB#8, 0x4E#8]
  | .bit1A => [0xCB#8, 0x4F#8]
  | .bit2B => [0xCB#8, 0x50#8]
  | .bit2C => [0xCB#8, 0x51#8]
  | .bit2D => [0xCB#8, 0x52#8]
  | .bit2E => [0xCB#8, 0x53#8]
  | .bit2H => [0xCB#8, 0x54#8]
  | .bit2L => [0xCB#8, 0x55#8]
  | .bit2AtHl => [0xCB#8, 0x56#8]
  | .bit2A => [0xCB#8, 0x57#8]
  | .bit3B => [0xCB#8, 0x58#8]
  | .bit3C => [0xCB#8, 0x59#8]
  | .bit3D => [0xCB#8, 0x5A#8]
  | .bit3E => [0xCB#8, 0x5B#8]
  | .bit3H => [0xCB#8, 0x5C#8]
  | .bit3L => [0xCB#8, 0x5D#8]
  | .bit3AtHl => [0xCB#8, 0x5E#8]
  | .bit3A => [0xCB#8, 0x5F#8]
  | .bit4B => [0xCB#8, 0x60#8]
  | .bit4C => [0xCB#8, 0x61#8]
  | .bit4D => [0xCB#8, 0x62#8]
  | .bit4E => [0xCB#8, 0x63#8]
  | .bit4H => [0xCB#8, 0x64#8]
  | .bit4L => [0xCB#8, 0x65#8]
  | .bit4AtHl => [0xCB#8, 0x66#8]
  | .bit4A => [0xCB#8, 0x67#8]
  | .bit5B => [0xCB#8, 0x68#8]
  | .bit5C => [0xCB#8, 0x69#8]
  | .bit5D => [0xCB#8, 0x6A#8]
  | .bit5E => [0xCB#8, 0x6B#8]
  | .bit5H => [0xCB#8, 0x6C#8]
  | .bit5L => [0xCB#8, 0x6D#8]
  | .bit5AtHl => [0xCB#8, 0x6E#8]
  | .bit5A => [0xCB#8, 0x6F#8]
  | .bit6B => [0xCB#8, 0x70#8]
  | .bit6C => [0xCB#8, 0x71#8]
  | .bit6D => [0xCB#8, 0x72#8]
  | .bit6E => [0xCB#8, 0x73#8]
  | .bit6H => [0xCB#8, 0x74#8]
  | .bit6L => [0xCB#8, 0x75#8]
  | .bit6AtHl => [0xCB#8, 0x76#8]
  | .bit6A => [0xCB#8, 0x77#8]
  | .bit7B => [0xCB#8, 0x78#8]
  | .bit7C => [0xCB#8, 0x79#8]
  | .bit7D => [0xCB#8, 0x7A#8]
  | .bit7E => [0xCB#8, 0x7B#8]
  | .bit7H => [0xCB#8, 0x7C#8]
  | .bit7L => [0xCB#8, 0x7D#8]
  | .bit7AtHl => [0xCB#8, 0x7E#8]
  | .bit7A => [0xCB#8, 0x7F#8]
  | .res0B => [0xCB#8, 0x80#8]
  | .res0C => [0xCB#8, 0x81#8]
  | .res0D => [0xCB#8, 0x82#8]
  | .res0E => [0xCB#8, 0x83#8]
  | .res0H => [0xCB#8, 0x84#8]
  | .res0L => [0xCB#8, 0x85#8]
  | .res0AtHl => [0xCB#8, 0x86#8]
  | .res0A => [0xCB#8, 0x87#8]
  | .res1B => [0xCB#8, 0x88#8]
  | .res1C => [0xCB#8, 0x89#8]
  | .res1D => [0xCB#8, 0x8A#8]
  | .res1E => [0xCB#8, 0x8B#8]
  | .res1H => [0xCB#8, 0x8C#8]
  | .res1L => [0xCB#8, 0x8D#8]
  | .res1AtHl => [0xCB#8, 0x8E#8]
  | .res1A => [0xCB#8, 0x8F#8]
  | .res2B => [0xCB#8, 0x90#8]
  | .res2C => [0xCB#8, 0x91#8]
  | .res2D => [0xCB#8, 0x92#8]
  | .res2E => [0xCB#8, 0x93#8]
  | .res2H => [0xCB#8, 0x94#8]
  | .res2L => [0xCB#8, 0x95#8]
  | .res2AtHl => [0xCB#8, 0x96#8]
  | .res2A => [0xCB#8, 0x97#8]
  | .res3B => [0xCB#8, 0x98#8]
  | .res3C => [0xCB#8, 0x99#8]
  | .res3D => [0xCB#8, 0x9A#8]
  | .res3E => [0xCB#8, 0x9B#8]
  | .res3H => [0xCB#8, 0x9C#8]
  | .res3L => [0xCB#8, 0x9D#8]
  | .res3AtHl => [0xCB#8, 0x9E#8]
  | .res3A => [0xCB#8, 0x9F#8]
  | .res4B => [0xCB#8, 0xA0#8]
  | .res4C => [0xCB#8, 0xA1#8]
  | .res4D => [0xCB#8, 0xA2#8]
  | .res4E => [0xCB#8, 0xA3#8]
  | .res4H => [0xCB#8, 0xA4#8]
  | .res4L => [0xCB#8, 0xA5#8]
  | .res4AtHl => [0xCB#8, 0xA6#8]
  | .res4A => [0xCB#8, 0xA7#8]
  | .res5B => [0xCB#8, 0xA8#8]
  | .res5C => [0xCB#8, 0xA9#8]
  | .res5D => [0xCB#8, 0xAA#8]
  | .res5E => [0xCB#8, 0xAB#8]
  | .res5H => [0xCB#8, 0xAC#8]
  | .res5L => [0xCB#8, 0xAD#8]
  | .res5AtHl => [0xCB#8, 0xAE#8]
  | .res5A => [0xCB#8, 0xAF#8]
  | .res6B => [0xCB#8, 0xB0#8]
  | .res6C => [0xCB#8, 0xB1#8]
  | .res6D => [0xCB#8, 0xB2#8]
  | .res6E => [0xCB#8, 0xB3#8]
  | .res6H => [0xCB#8, 0xB4#8]
  | .res6L => [0xCB#8, 0xB5#8]
  | .res6AtHl => [0xCB#8, 0xB6#8]
  | .res6A => [0xCB#8, 0xB7#8]
  | .res7B => [0xCB#8, 0xB8#8]
  | .res7C => [0xCB#8, 0xB9#8]
  | .res7D => [0xCB#8, 0xBA#8]
  | .res7E => [0xCB#8, 0xBB#8]
  | .res7H => [0xCB#8, 0xBC#8]
  | .res7L => [0xCB#8, 0xBD#8]
  | .res7AtHl => [0xCB#8, 0xBE#8]
  | .res7A => [0xCB#8, 0xBF#8]
  | .set0B => [0xCB#8, 0xC0#8]
  | .set0C => [0xCB#8, 0xC1#8]
  | .set0D => [0xCB#8, 0xC2#8]
  | .set0E => [0xCB#8, 0xC3#8]
  | .set0H => [0xCB#8, 0xC4#8]
  | .set0L => [0xCB#8, 0xC5#8]
  | .set0AtHl => [0xCB#8, 0xC6#8]
  | .set0A => [0xCB#8, 0xC7#8]
  | .set1B => [0xCB#8, 0xC8#8]
  | .set1C => [0xCB#8, 0xC9#8]
  | .set1D => [0xCB#8, 0xCA#8]
  | .set1E => [0xCB#8, 0xCB#8]
  | .set1H => [0xCB#8, 0xCC#8]
  | .set1L => [0xCB#8, 0xCD#8]
  | .set1AtHl => [0xCB#8, 0xCE#8]
  | .set1A => [0xCB#8, 0xCF#8]
  | .set2B => [0xCB#8, 0xD0#8]
  | .set2C => [0xCB#8, 0xD1#8]
  | .set2D => [0xCB#8, 0xD2#8]
  | .set2E => [0xCB#8, 0xD3#8]
  | .set2H => [0xCB#8, 0xD4#8]
  | .set2L => [0xCB#8, 0xD5#8]
  | .set2AtHl => [0xCB#8, 0xD6#8]
  | .set2A => [0xCB#8, 0xD7#8]
  | .set3B => [0xCB#8, 0xD8#8]
  | .set3C => [0xCB#8, 0xD9#8]
  | .set3D => [0xCB#8, 0xDA#8]
  | .set3E => [0xCB#8, 0xDB#8]
  | .set3H => [0xCB#8, 0xDC#8]
  | .set3L => [0xCB#8, 0xDD#8]
  | .set3AtHl => [0xCB#8, 0xDE#8]
  | .set3A => [0xCB#8, 0xDF#8]
  | .set4B => [0xCB#8, 0xE0#8]
  | .set4C => [0xCB#8, 0xE1#8]
  | .set4D => [0xCB#8, 0xE2#8]
  | .set4E => [0xCB#8, 0xE3#8]
  | .set4H => [0xCB#8, 0xE4#8]
  | .set4L => [0xCB#8, 0xE5#8]
  | .set4AtHl => [0xCB#8, 0xE6#8]
  | .set4A => [0xCB#8, 0xE7#8]
  | .set5B => [0xCB#8, 0xE8#8]
  | .set5C => [0xCB#8, 0xE9#8]
  | .set5D => [0xCB#8, 0xEA#8]
  | .set5E => [0xCB#8, 0xEB#8]
  | .set5H => [0xCB#8, 0xEC#8]
  | .set5L => [0xCB#8, 0xED#8]
  | .set5AtHl => [0xCB#8, 0xEE#8]
  | .set5A => [0xCB#8, 0xEF#8]
  | .set6B => [0xCB#8, 0xF0#8]
  | .set6C => [0xCB#8, 0xF1#8]
  | .set6D => [0xCB#8, 0xF2#8]
  | .set6E => [0xCB#8, 0xF3#8]
  | .set6H => [0xCB#8, 0xF4#8]
  | .set6L => [0xCB#8, 0xF5#8]
  | .set6AtHl => [0xCB#8, 0xF6#8]
  | .set6A => [0xCB#8, 0xF7#8]
  | .set7B => [0xCB#8, 0xF8#8]
  | .set7C => [0xCB#8, 0xF9#8]
  | .set7D => [0xCB#8, 0xFA#8]
  | .set7E => [0xCB#8, 0xFB#8]
  | .set7H => [0xCB#8, 0xFC#8]
  | .set7L => [0xCB#8, 0xFD#8]
  | .set7AtHl => [0xCB#8, 0xFE#8]
  | .set7A => [0xCB#8, 0xFF#8]

/-- The descriptor of an instruction, by its opcode bytes (R89). The prefix has the descriptor of its own cell. -/
def Instr.descriptor (i : Instr) : Descriptor :=
  match encode i with
  | 0xCB#8 :: op2 :: _ => cbDescriptor op2
  | op :: _ => unprefixedDescriptor op
  | [] => unprefixedDescriptor 0x00#8

end Sys2Proof
end

