-- ==== Sys2Proof/Machine/System.lean ====
section
/-! DEFINITION. System, interrupt-control and low-power instructions (spec 46_system.md): the operations the meanings share, then one
meaning per row, the UNUSED ones and the prefix byte's among them. -/

namespace Sys2Proof.Machine

/-- HALT (R271): with ime clear and an interrupt pending and enabled it arms the HALT bug and does not halt; else it halts. -/
def halt (cycles : Nat) (s : State) : State :=
  if s.ime = false ∧ s.pend ≠ 0#8 then { s with haltBug := true }.finish cycles
  else { s with halted := true }.finish cycles

/-- STOP (R272, R313), its second byte fetched and discarded: what STOP_MODE says. -/
def stop (cycles : Nat) (s : State) : State :=
  match s.params.stopMode with
  | .fault => s.raise .stopUnmodelled
  | .nop => s.finish cycles

/-- DI (R273): ime and a pending enable are cleared at once. -/
def disableInterrupts (cycles : Nat) (s : State) : State := { s with ime := false, imePending := false }.finish cycles

/-- EI (R274): the enable is armed; ime is not written. -/
def armEnable (cycles : Nat) (s : State) : State := { s with imePending := true }.finish cycles

/-- The effect of the byte 0xCB (R106, R275): the next byte is fetched and its row of the prefixed table runs, chosen here by its
fields (R85), with that row's duration (R174). The decoder never answers the prefix as an instruction of its own (log 10). -/
def prefixedByFields (s : State) : State :=
  let op := readImm8 s
  let r := R8.ofCode (fieldZ op.1)
  let u := Fin.ofNat 8 (fieldY op.1)
  let n := cbCycles op.1
  match fieldX op.1 with
  | 0 => rotR8 (RotOp.ofCode (fieldY op.1)) r n op.2
  | 1 => bitR8 u r n op.2
  | 2 => resR8 u r n op.2
  | _ => setR8 u r n op.2

/-- NOP (R270). -/
def execNop (s : State) : Result := .next (s.finish 1)

/-- STOP (R272). -/
def execStop (_n : Byte) (s : State) : Result := .next (stop 1 s)

/-- HALT (R271). -/
def execHalt (s : State) : Result := .next (halt 1 s)

/-- PREFIX CB (R275). -/
def execPrefixCb (s : State) : Result := .next (prefixedByFields s)

/-- UNUSED_D3 (R276). -/
def execUnusedD3 (s : State) : Result := .next (s.raise (.unusedOpcode 0xD3#8))

/-- UNUSED_DB (R276). -/
def execUnusedDB (s : State) : Result := .next (s.raise (.unusedOpcode 0xDB#8))

/-- UNUSED_DD (R276). -/
def execUnusedDD (s : State) : Result := .next (s.raise (.unusedOpcode 0xDD#8))

/-- UNUSED_E3 (R276). -/
def execUnusedE3 (s : State) : Result := .next (s.raise (.unusedOpcode 0xE3#8))

/-- UNUSED_E4 (R276). -/
def execUnusedE4 (s : State) : Result := .next (s.raise (.unusedOpcode 0xE4#8))

/-- UNUSED_EB (R276). -/
def execUnusedEB (s : State) : Result := .next (s.raise (.unusedOpcode 0xEB#8))

/-- UNUSED_EC (R276). -/
def execUnusedEC (s : State) : Result := .next (s.raise (.unusedOpcode 0xEC#8))

/-- UNUSED_ED (R276). -/
def execUnusedED (s : State) : Result := .next (s.raise (.unusedOpcode 0xED#8))

/-- DI (R273). -/
def execDi (s : State) : Result := .next (disableInterrupts 1 s)

/-- UNUSED_F4 (R276). -/
def execUnusedF4 (s : State) : Result := .next (s.raise (.unusedOpcode 0xF4#8))

/-- EI (R274). -/
def execEi (s : State) : Result := .next (armEnable 1 s)

/-- UNUSED_FC (R276). -/
def execUnusedFC (s : State) : Result := .next (s.raise (.unusedOpcode 0xFC#8))

/-- UNUSED_FD (R276). -/
def execUnusedFD (s : State) : Result := .next (s.raise (.unusedOpcode 0xFD#8))

end Sys2Proof.Machine
end

