-- ==== Sys2Proof/Machine/Fetch.lean ====
section
/-! DEFINITION. Fetching an instruction (spec 40_dispatch.md R105, R106, R109; log 9), and putting one in memory where the next
step fetches it (log 14). -/

namespace Sys2Proof.Machine

/-- Opcode fetch (R105): the byte at PC; PC advances, unless the HALT bug is armed, which the fetch disarms. -/
def fetchOpcode (s : State) : Byte × State :=
  let r := busRead s.pc s
  (r.1, if r.2.haltBug then { r.2 with haltBug := false } else { r.2 with pc := r.2.pc + 1#16 })

/-- The instruction at PC and the state after its bytes are fetched (R105, R106, R109): the opcode, the byte after a prefix, and the
operand bytes, each one bus read, in that order, and no byte more. -/
def fetchInstr (s : State) : Instr × State :=
  let op := fetchOpcode s
  match (unprefixedDescriptor op.1).slot with
  | .op i => (i, op.2)
  | .imm8 mk =>
    let n := readImm8 op.2
    (mk n.1, n.2)
  | .imm16 mk =>
    let n := readImm16 op.2
    (mk n.1, n.2)
  | .cbPrefix =>
    let op2 := readImm8 op.2
    (cbInstr op2.1, op2.2)

/-- The three addresses from `pc` on hold plain memory, not IF or IE. -/
def plainAt (p : Params) (pc : Word) : Bool :=
  [pc, pc + 1#16, pc + 2#16].all fun a => decide (a ≠ p.ifAddr) && decide (a ≠ p.ieAddr)

/-- The address at which `placeBytes` puts three bytes: PC, or, where one of them would fall on IF or IE, the first of three others
where none does (two addresses cannot block all three). -/
def placeAddr (s : State) : Word :=
  ([s.pc, 0xC000#16, 0xD000#16, 0xE000#16].find? (plainAt s.params)).getD s.pc

/-- The state with these bytes at PC and nothing in the way of the next step's fetching and running them: memory on the bus, no
fault, not halted, no HALT bug armed, no serviceable interrupt, and no action of the environment before that step (log 14). -/
def placeBytes (bytes : List Byte) (s : State) : State :=
  let pc := placeAddr s
  let put (m : Memory) (x : Byte × Nat) : Memory := m.write (pc + BitVec.ofNat 16 x.2).toNat x.1
  { s with
    pc := pc
    mem := bytes.zipIdx.foldl put s.mem
    params := { s.params with bus := .ram }
    fault := none
    halted := false
    haltBug := false
    ime := s.ime && decide (s.pend = 0#8)
    schedule := [] :: s.schedule }

end Sys2Proof.Machine
end

