-- ==== Sys2Proof/Machine/Step.lean ====
section
/-! DEFINITION. One step of the machine (spec 40_dispatch.md R100 to R112; 60_exceptions.md R315). -/

namespace Sys2Proof.Machine

/-- The end of a step (R110, R315): the latch commit, which a step that raised a fault does not reach. -/
def endStep (enableDue : Bool) (s : State) : State :=
  if s.fault.isSome then s else commitLatch enableDue s

/-- Fetch, decode and execute (R105 to R108), then the end of the step. -/
def runInstr (enableDue : Bool) (s : State) : Host.Outcome State Fault Refusal :=
  let f := fetchInstr s
  match exec f.1 f.2 with
  | .next t => .next (endStep enableDue t)
  | .fault r => .fault r
  | .refused r => .refused r

/-- One step from a state that holds no fault, after the environment has acted (R102 to R111): the idle halted step, or the wake,
and then an interrupt service or an instruction. -/
def coreStep (s : State) : Host.Outcome State Fault Refusal :=
  if s.halted ∧ s.pend = 0#8 then .next (s.finish 1)
  else
    let s1 := { s with halted := false }
    if s1.ime ∧ s1.pend ≠ 0#8 then .next (endStep s.imePending (serviceInterrupt s1))
    else runInstr s.imePending s1

/-- One step (R100, R112). A state that holds a fault has none (R101). -/
def step (s : State) : Host.Outcome State Fault Refusal :=
  match s.fault with
  | some f => .fault f
  | none => coreStep s.beginStep

/-- The state with the instruction of the table's word `w` of `nbits` bits where the next step fetches, and ready to run it (log 14). -/
def State.withFetchWord (s : State) (nbits w : Nat) : State := placeBytes (tableBytes nbits w) s

end Sys2Proof.Machine
end

