-- ==== Sys2Proof/Safety.lean ====
section
/-! DEFINITION. The terms claims are stated in: the invariant of the machine, what an instruction leaves as it was, and the operands of
an instruction as values of the state before it. -/

namespace Sys2Proof

/-- The duration of an instruction with one r8 operand: one count on a register, one on (HL). -/
def R8.cost (onReg onHl : Nat) : R8 → Nat
  | .reg _ => onReg
  | .atHl => onHl

/-- The duration of an accumulator operation (R121 to R128): 1 on a register, 2 on (HL) and on an immediate. -/
def AluSrc.cost : AluSrc → Nat
  | .r8 r => r.cost 1 2
  | .n8 _ => 2

end Sys2Proof

namespace Sys2Proof.Machine

/-- The invariant every step keeps: F's bits 3..0 are 0 (R24), IF's and IE's bits 7..5 are 0 (R34, R35), memory is in its canonical
form, a halted core has no enable pending (R103) and no HALT bug armed (R271), and the fault that no instruction raises is not
there (R312). -/
structure State.Inv (s : State) : Prop where
  flagsLow   : s.f &&& 0x0F#8 = 0#8
  ifTop      : s.ifReg &&& 0xE0#8 = 0#8
  ieTop      : s.ieReg &&& 0xE0#8 = 0#8
  memory     : s.mem.wf = true
  haltedIdle : s.halted = true → s.imePending = false ∧ s.haltBug = false
  noIllegal  : s.fault ≠ some .illegalOperand

/-- The registers A to L other than these are as they were. -/
def KeepsRegs (s t : State) (except : List Reg) : Prop := ∀ r, r ∉ except → t.reg r = s.reg r

/-- IF and IE are as they were unless their address is among these, and under `RamBus` every byte of the address space but those at
these addresses reads as it did. What another bus does to memory is its own, and is said by `SameEnv`. -/
structure KeepsBytes (s t : State) (except : List Word) : Prop where
  bytes : s.params.bus = .ram → ∀ a, a ∉ except → t.peek a = s.peek a
  ifReg : s.params.ifAddr ∉ except → t.ifReg = s.ifReg
  ieReg : s.params.ieAddr ∉ except → t.ieReg = s.ieReg

/-- Memory, what the peripherals hold, IF, IE and the record of the bus accesses are the same in both states: with `u` the state after
some bus accesses, `t`'s environment is what these accesses, and nothing else, left. -/
structure SameEnv (u t : State) : Prop where
  env : t.busEnv = u.busEnv
  bus : t.bus = u.bus

/-- The control state (R29 to R33), the parameters and the environment's plan are as they were. -/
structure KeepsControl (s t : State) : Prop where
  halted     : t.halted = s.halted
  ime        : t.ime = s.ime
  imePending : t.imePending = s.imePending
  haltBug    : t.haltBug = s.haltBug
  fault      : t.fault = s.fault
  params     : t.params = s.params
  schedule   : t.schedule = s.schedule

/-- F, SP and PC are as they were. -/
structure KeepsFSpPc (s t : State) : Prop where
  f  : t.f = s.f
  sp : t.sp = s.sp
  pc : t.pc = s.pc

/-- What a byte stored at an address reads as afterwards: IF and IE keep only bits 4..0 (R63). -/
def State.stored (s : State) (addr : Word) (v : Byte) : Byte :=
  if addr = s.params.ifAddr ∨ addr = s.params.ieAddr then v &&& 0x1F#8 else v

/-- The value of an r8 operand (R73). -/
def State.r8Value (s : State) : R8 → Byte
  | .reg r => s.reg r
  | .atHl => s.peek s.hl

/-- The state after an r8 operand is read (R73): (HL) is one bus read. -/
def State.r8After (s : State) : R8 → State
  | .reg _ => s
  | .atHl => (busRead s.hl s).2

/-- The value of an accumulator operation's source (R120). -/
def State.aluValue (s : State) : AluSrc → Byte
  | .r8 r => s.r8Value r
  | .n8 n => n

/-- The state after an accumulator operation's source is read, its immediate having been fetched (R120). -/
def State.aluAfter (s : State) : AluSrc → State
  | .r8 r => s.r8After r
  | .n8 _ => s

/-- The instruction read an r8 operand and wrote `new` to it and nothing else: no other register, no other byte, not SP or PC, none
of the control state. On (HL) it made one bus read and then one bus write, which under `RamBus` left `new` there. F and the duration
are not spoken of. -/
structure ModifiesR8 (s t : State) (r : R8) (new : Byte) : Prop where
  value : match r with
    | .reg r => t.reg r = new
    | .atHl => s.params.bus = .ram → t.peek s.hl = s.stored s.hl new
  regs : KeepsRegs s t (match r with | .reg r => [r] | .atHl => [])
  bytes : KeepsBytes s t (match r with | .reg _ => [] | .atHl => [s.hl])
  sp : t.sp = s.sp
  pc : t.pc = s.pc
  control : KeepsControl s t
  env : SameEnv (match r with | .reg _ => s | .atHl => busWrite s.hl new (busRead s.hl s).2) t

/-- What `Push16(v)` does (R55): two bus writes, the high byte at SP-1 and then the low byte at SP-2, and SP ends two lower. Under
`RamBus` these two bytes are stored there and every other byte reads as before. -/
structure Pushed (s t : State) (v : Word) : Prop where
  sp : t.sp = s.sp - 2#16
  env : SameEnv (busWrite (s.sp - 2#16) (loByte v) (busWrite (s.sp - 1#16) (hiByte v) s)) t
  high : s.params.bus = .ram → t.peek (s.sp - 1#16) = s.stored (s.sp - 1#16) (hiByte v)
  low : s.params.bus = .ram → t.peek (s.sp - 2#16) = s.stored (s.sp - 2#16) (loByte v)
  bytes : KeepsBytes s t [s.sp - 1#16, s.sp - 2#16]

/-- The state after the two bus reads of `Pop16()` (R56): at SP, then at SP+1. -/
def State.popAfter (s : State) : State := (busRead (s.sp + 1#16) (busRead s.sp s).2).2

/-- The word `Pop16()` answers (R56): the low byte is the byte read at SP, the high byte the one then read at SP+1. -/
def State.stackTop (s : State) : Word := joinBytes (busRead (s.sp + 1#16) (busRead s.sp s).2).1 (busRead s.sp s).1

/-- Bus reads at these addresses, one after another: the bytes they answer, in order, and the state after them (R59). -/
def readAll : List Word → State → List Byte × State
  | [], s => ([], s)
  | a :: as, s => ((busRead a s).1 :: (readAll as (busRead a s).2).1, (readAll as (busRead a s).2).2)

/-- The addresses an instruction is fetched from, in order (R105, R106, R109): PC and the two after it; with the HALT bug armed the
first is read twice. -/
def State.fetchAddrs (s : State) : List Word :=
  let pc1 := if s.haltBug then s.pc else s.pc + 1#16
  [s.pc, pc1, pc1 + 1#16]

/-- The state in which an instruction of `n` bytes runs (R105, R109): its bytes have been read, PC is past them (one less with the
HALT bug armed), and the HALT bug is disarmed. -/
def State.fetched (s : State) (n : Nat) : State :=
  { (readAll (s.fetchAddrs.take n) s).2 with
    haltBug := false
    pc := (if s.haltBug then s.pc else s.pc + 1#16) + BitVec.ofNat 16 (n - 1) }

/-- The core is halted and nothing would wake it (R103). -/
def State.idle (s : State) : Prop := s.halted = true ∧ s.pend = 0#8

/-- An interrupt would be serviced (R301). -/
def State.serviceable (s : State) : Prop := s.ime = true ∧ s.pend ≠ 0#8

/-- The state from which a step that is not idle goes on: after the environment has acted, and awake (R103). -/
def State.awake (s : State) : State := { s.beginStep with halted := false }

/-- The next step fetches and runs an instruction: no fault (R101), not idle (R103), no service (R104). -/
def State.runs (s : State) : Prop := s.fault = none ∧ ¬ s.beginStep.idle ∧ ¬ s.beginStep.serviceable

/-- The instruction that the next step fetches, when it fetches one. -/
def State.nextInstr (s : State) : Instr := (fetchInstr s.awake).1

/-- A run of the machine does nothing wrong as long as no state of it holds a fault (R314). -/
def State.safe (s : State) : Prop := s.fault = none

end Sys2Proof.Machine
end

