-- ==== Sys2Proof/Certificates/Slice0/Obligations.lean ====
section
/-! DEFINITION. The statements of this package. Each is a proposition about the machine; none is proved here. A docstring names the
rules it formalises; its words in full stand in OBLIGATIONS.json. -/

open Sys2Proof Sys2Proof.Machine

/-- For every well-formed instruction, with every value of its operands, and whatever bytes follow it, decode of encode of it followed by those bytes answers that instruction and those bytes. Derived from 30_encoding.md R70, R71, R84, R85, R89. -/
def Obligations.DecodeOfEncodeIsTheInstruction : Prop :=
  ∀ (i : Instr) (rest : List Byte), i.wellFormed = true → decode (encode i ++ rest) = .ok (i, rest)

/-- Whenever decode answers an instruction and a rest, the instruction is well-formed and its encoding followed by the rest is the bytes that were decoded: no two byte strings are read as one instruction and no bit is dropped. Derived from 30_encoding.md R84, R85, R87, R91. -/
def Obligations.EncodeOfDecodeIsTheBytes : Prop :=
  ∀ (bs : List Byte) (i : Instr) (rest : List Byte), decode bs = .ok (i, rest) → i.wellFormed = true ∧ encode i ++ rest = bs

/-- One word of each family, written out from the maps of R84 and R85 and the formats of R71, decodes to its instruction: LD BC,n16, JR NZ,e8, ADD A,B, INC (HL), LDH (n8),A, CALL n16, POP AF, RST 0x28, HALT, RLC B, SWAP (HL), BIT 7,H, RES 0,A, SET 7,(HL). Derived from 30_encoding.md R71, R84, R85. -/
def Obligations.WrittenOutWordsDecode : Prop :=
  decode [0b00000001#8, 0x34#8, 0x12#8] = .ok (.ldBcN16 0x1234#16, []) ∧
  decode [0b00100000#8, 0xFE#8] = .ok (.jrNzE8 0xFE#8, []) ∧
  decode [0b10000000#8] = .ok (.addAB, []) ∧
  decode [0b00110100#8] = .ok (.incAtHl, []) ∧
  decode [0b11100000#8, 0x80#8] = .ok (.ldhAtN8A 0x80#8, []) ∧
  decode [0b11001101#8, 0x00#8, 0xC1#8] = .ok (.callN16 0xC100#16, []) ∧
  decode [0b11110001#8] = .ok (.popAf, []) ∧
  decode [0b11101111#8] = .ok (.rst28, []) ∧
  decode [0b01110110#8] = .ok (.halt, []) ∧
  decode [0b11001011#8, 0b00000000#8] = .ok (.rlcB, []) ∧
  decode [0b11001011#8, 0b00110110#8] = .ok (.swapAtHl, []) ∧
  decode [0b11001011#8, 0b01111100#8] = .ok (.bit7H, []) ∧
  decode [0b11001011#8, 0b10000111#8] = .ok (.res0A, []) ∧
  decode [0b11001011#8, 0b11111110#8] = .ok (.set7AtHl, [])

/-- Behind 0xCB, a second byte with fields x, y, z is: for x = 0 the rotate or shift y (RLC, RRC, RL, RR, SLA, SRA, SWAP, SRL) of r8 code z; for x = 1, 2, 3 BIT, RES, SET of bit y of r8 code z; so all 256 second bytes decode. r8 codes 0 to 7 are B, C, D, E, H, L, (HL), A. Formalises R85. -/
def Obligations.PrefixedMapByFields : Prop :=
  ∀ (x : Fin 4) (y z : Fin 8) (rest : List Byte),
    let op2 := BitVec.ofNat 8 (64 * x.val + 8 * y.val + z.val)
    let r : R8 := ([.reg .b, .reg .c, .reg .d, .reg .e, .reg .h, .reg .l, .atHl] : List R8).getD z.val (.reg .a)
    let rot : RotOp := ([.rlc, .rrc, .rl, .rr, .sla, .sra, .swap] : List RotOp).getD y.val .srl
    decode (0xCB#8 :: op2 :: rest) =
      .ok (([.ofRot rot r, .ofBit y r, .ofRes y r] : List Instr).getD x.val (.ofSet y r), rest)

/-- The register-field families of the unprefixed map are encoded as their rules write them: LD r8,r8 at 0x40 | y << 3 | z, LD r8,n8 at 0x06 | y << 3, LD r8,(HL) at 0x46 | y << 3, LD (HL),r8 at 0x70 | z, the accumulator operations at 0x80 | alu << 3 | z and 0xC6 | alu << 3, INC and DEC r8 at 0x04 and 0x05 | y << 3, the 16-bit forms at p << 4, the conditional forms at cc << 3 and RST at 0xC7 | y << 3. Derived from 30_encoding.md R72 to R77, R83, R84, 41_alu8.md R120, R129, R130, 44_load.md R200 to R203, R217, R221, R222, 45_control.md R242, R245, R247, R249, R251. -/
def Obligations.UnprefixedFamiliesByFields : Prop :=
  let code (r : Reg) : Nat := match r with
    | .b => 0 | .c => 1 | .d => 2 | .e => 3 | .h => 4 | .l => 5 | .a => 7
  let code8 (r : R8) : Nat := match r with
    | .reg r => code r
    | .atHl => 6
  let alu (op : AluOp) : Nat := match op with
    | .add => 0 | .adc => 1 | .sub => 2 | .sbc => 3 | .and => 4 | .xor => 5 | .or => 6 | .cp => 7
  let p (rr : R16) : Nat := match rr with
    | .bc => 0 | .de => 1 | .hl => 2 | .sp => 3
  let pStk (rr : R16stk) : Nat := match rr with
    | .bc => 0 | .de => 1 | .hl => 2 | .af => 3
  let pMem (m : R16mem) : Nat := match m with
    | .bc => 0 | .de => 1 | .hli => 2 | .hld => 3
  let cc (q : Cond) : Nat := match q with
    | .nz => 0 | .z => 1 | .nc => 2 | .c => 3
  let op (n : Nat) : Byte := BitVec.ofNat 8 n
  (∀ y z : Reg, encode (.ofLd y z) = [op (0x40 + 8 * code y + code z)]) ∧
  (∀ (y : Reg) (n : Byte), encode (.ofLdN8 y n) = [op (0x06 + 8 * code y), n]) ∧
  (∀ y : Reg, encode (.ofLdFromHl y) = [op (0x46 + 8 * code y)]) ∧
  (∀ z : Reg, encode (.ofLdToHl z) = [op (0x70 + code z)]) ∧
  (∀ (o : AluOp) (z : R8), encode (.ofAlu o (.r8 z)) = [op (0x80 + 8 * alu o + code8 z)]) ∧
  (∀ (o : AluOp) (n : Byte), encode (.ofAlu o (.n8 n)) = [op (0xC6 + 8 * alu o), n]) ∧
  (∀ y : R8, encode (.ofInc8 y) = [op (0x04 + 8 * code8 y)] ∧ encode (.ofDec8 y) = [op (0x05 + 8 * code8 y)]) ∧
  (∀ (rr : R16) (n : Word), encode (.ofLdR16 rr n) = [op (0x01 + 16 * p rr), loByte n, hiByte n]) ∧
  (∀ rr : R16, encode (.ofInc16 rr) = [op (0x03 + 16 * p rr)] ∧ encode (.ofDec16 rr) = [op (0x0B + 16 * p rr)] ∧
    encode (.ofAddHl rr) = [op (0x09 + 16 * p rr)]) ∧
  (∀ m : R16mem, encode (.ofLdMemFromA m) = [op (0x02 + 16 * pMem m)] ∧
    encode (.ofLdAFromMem m) = [op (0x0A + 16 * pMem m)]) ∧
  (∀ rr : R16stk, encode (.ofPush rr) = [op (0xC5 + 16 * pStk rr)] ∧ encode (.ofPop rr) = [op (0xC1 + 16 * pStk rr)]) ∧
  (∀ (q : Cond) (n : Word), encode (.ofJp q n) = [op (0xC2 + 8 * cc q), loByte n, hiByte n] ∧
    encode (.ofCall q n) = [op (0xC4 + 8 * cc q), loByte n, hiByte n]) ∧
  (∀ (q : Cond) (e : Byte), encode (.ofJr q e) = [op (0x20 + 8 * cc q), e]) ∧
  (∀ q : Cond, encode (.ofRet q) = [op (0xC0 + 8 * cc q)]) ∧
  (∀ y : Fin 8, encode (.ofRst y) = [op (0xC7 + 8 * y.val)])

/-- The eleven UNUSED opcodes are 0xD3, 0xDB, 0xDD, 0xE3, 0xE4, 0xEB, 0xEC, 0xED, 0xF4, 0xFC and 0xFD: they are the opcodes whose descriptor has length 0, and its duration is 0. Each decodes to its own row, whose meaning raises UnusedOpcode(op) in every state: the fault is set, no cycle count is returned, nothing else changes. Formalises R86, R276. -/
def Obligations.UnusedOpcodesAreTheEleven : Prop :=
  let eleven : List Byte :=
    [0xD3#8, 0xDB#8, 0xDD#8, 0xE3#8, 0xE4#8, 0xEB#8, 0xEC#8, 0xED#8, 0xF4#8, 0xFC#8, 0xFD#8]
  (∀ op : Byte, op ∈ eleven ↔ (unprefixedDescriptor op).length = 0) ∧
  ∀ op ∈ eleven, (unprefixedDescriptor op).cycles = 0 ∧
    ∃ i, (op, i) ∈ Instr.unusedRows ∧ (∀ rest, decode (op :: rest) = .ok (i, rest)) ∧
      ∀ s : State, exec i s = .next { s with fault := some (.unusedOpcode op), cycles := none }

/-- That the decoder refuses, and by which names, is the model's own choice (log 11): the bus always answers, and the rules say nothing of missing bytes. No byte at all is refused as noOpcode. An opcode whose operand bytes, or whose byte after the prefix 0xCB, are missing is refused as truncated, and one byte short of a three-byte instruction as well. Every other list of bytes decodes. Derived from 30_encoding.md R70, R71, R88. -/
def Obligations.MissingBytesAreNamed : Prop :=
  decode [] = .error .noOpcode ∧
  ∀ (op : Byte) (rest : List Byte),
    let need := match (unprefixedDescriptor op).slot with
      | .op _ => 0
      | .imm8 _ => 1
      | .imm16 _ => 2
      | .cbPrefix => 1
    (rest.length < need ↔ decode (op :: rest) = .error (.truncated op)) ∧
    (need ≤ rest.length ↔ ∃ i, decode (op :: rest) = .ok (i, rest.drop need))

/-- Every well-formed instruction is 1, 2 or 3 bytes long, as long as its descriptor says, but for the UNUSED rows, whose descriptor says 0 and which are their one opcode byte. An instruction that begins with 0xCB is 2 bytes long. Derived from 30_encoding.md R70, R88, R89, opcode_table.json (length). -/
def Obligations.EncodedLengthIsTheDescriptors : Prop :=
  ∀ i : Instr, i.wellFormed = true →
    1 ≤ (encode i).length ∧ (encode i).length ≤ 3 ∧
    ((encode i).head? = some 0xCB#8 → (encode i).length = 2) ∧
    ((encode i).length = i.descriptor.length ∨
      (i.descriptor.length = 0 ∧ (encode i).length = 1 ∧ i ∈ Instr.unusedRows.map (·.2)))

/-- An alternate duration stands in the descriptor of an instruction exactly when it is JR cc,e8, JP cc,n16, CALL cc,n16 or RET cc; lengths and durations are natural numbers. The alternate duration is the shorter one. Formalises R90. -/
def Obligations.AlternateDurationOnlyOfConditionals : Prop :=
  ∀ i : Instr,
    ((∃ n, i.descriptor.cyclesNotTaken = some n) ↔
      (∃ q e, i = .ofJr q e) ∨ (∃ q n, i = .ofJp q n) ∨ (∃ q n, i = .ofCall q n) ∨ (∃ q, i = .ofRet q)) ∧
    ∀ n, i.descriptor.cyclesNotTaken = some n → n < i.descriptor.cycles

/-- Every well-formed instruction answers a next state from every state. The cycle count it leaves is the base duration of its descriptor, or its alternate duration where it has one, or there is none because the instruction has raised a fault. Derived from 40_dispatch.md R108, R111, 70_reset_and_hazards.md R347, opcode_table.json (cycles, cycles_not_taken). -/
def Obligations.EveryInstructionReportsItsDuration : Prop :=
  ∀ (i : Instr) (s : State), i.wellFormed = true → ∃ t, exec i s = .next t ∧
    (t.cycles = some i.descriptor.cycles ∨
      (∃ n, i.descriptor.cyclesNotTaken = some n ∧ t.cycles = some n) ∨
      (t.cycles = none ∧ t.fault ≠ none))

/-- When no fault is held, the core is not idle and no interrupt is serviceable (after the environment has acted), and the bytes that one, two or three bus reads at PC answer decode to an instruction with no byte left over, the step is exec of it: in the state that these reads leave, awake, with PC past the bytes (one less when the HALT bug was armed, which repeats the first byte and is disarmed); then, unless a fault was raised, the latch commit of an enable armed before the step. Some number of reads always does so. Derived from 40_dispatch.md R105, R106, R108, R109, R110, R112. -/
def Obligations.StepRunsTheDecodedInstruction : Prop :=
  ∀ s : State, s.runs →
    let s0 := s.awake
    let pc1 := if s0.haltBug then s0.pc else s0.pc + 1#16
    let read (n : Nat) := readAll ([s0.pc, pc1, pc1 + 1#16].take n) s0
    (∃ n i, 1 ≤ n ∧ n ≤ 3 ∧ decode (read n).1 = .ok (i, [])) ∧
    ∀ (n : Nat) (i : Instr), n ≤ 3 → decode (read n).1 = .ok (i, []) →
      step s = match exec i { (read n).2 with haltBug := false, pc := pc1 + BitVec.ofNat 16 (n - 1) } with
        | .next t => .next (if t.fault.isSome then t
            else if s0.imePending && t.imePending then { t with ime := true, imePending := false } else t)
        | .fault r => .fault r
        | .refused r => .refused r

/-- From a state whose fault is not none the step answers that fault: there is no next state. Formalises R101. -/
def Obligations.FaultedStateHasNoStep : Prop :=
  ∀ (s : State) (f : Fault), s.fault = some f → step s = .fault f

/-- A step that fetches one of the eleven UNUSED opcodes ends in the fault state UnusedOpcode(op): PC is one past the opcode (at it, when the HALT bug was armed), the opcode has been read, the HALT bug is disarmed and the core awake as for every fetch, nothing else has changed but by that read, no latch commit is made; and there is no further step. No byte after 0xCB is UNUSED: the byte 0xCB is none of the eleven, and what it prefixes raises no such fault. Formalises R107, R311. -/
def Obligations.UnusedStepEndsInTheFaultState : Prop :=
  (∀ s : State, s.runs → (unprefixedDescriptor (s.awake.peek s.awake.pc)).length = 0 →
    let s0 := s.awake
    let op := s0.peek s0.pc
    let t := { (busRead s0.pc s0).2 with
      pc := if s0.haltBug then s0.pc else s0.pc + 1#16
      haltBug := false
      fault := some (.unusedOpcode op) }
    step s = .next t ∧ t.bus = [.read s0.pc op] ∧ KeepsBytes s0 t [] ∧ step t = .fault (.unusedOpcode op)) ∧
  ∀ (op2 : Byte) (i : Instr) (s t : State), decode [0xCB#8, op2] = .ok (i, []) → exec i s = .next t → t.fault = s.fault

/-- Halted with nothing pending and enabled, a step changes nothing, makes no bus access and returns 1 M-cycle. Halted with an interrupt pending and enabled, whatever ime is, the step is the step of the same state awake. Halted with no enable armed, an idle step has no latch to commit. Formalises R103, R349. -/
def Obligations.HaltedCoreIdlesOrWakes : Prop :=
  ∀ s : State, s.fault = none →
    (s.beginStep.idle → step s = .next { s.beginStep with cycles := some 1 } ∧ s.beginStep.bus = []) ∧
    (s.beginStep.halted = true → s.beginStep.pend ≠ 0#8 → step s = step { s with halted := false })

/-- A halted core with an interrupt pending and enabled leaves the halted state. With ime = 1 it services the interrupt in that step, of 5 M-cycles. With ime = 0 it runs the instruction at PC in that step, without a service: IF keeps the request while the instruction is fetched. With nothing pending and enabled it idles for 1 M-cycle. Formalises R308. -/
def Obligations.HaltedCoreWakesToServeOrToContinue : Prop :=
  ∀ s : State, s.fault = none → s.beginStep.halted = true →
    let s0 := s.beginStep
    (s0.pend = 0#8 → step s = .next (s0.finish 1)) ∧
    (s0.pend ≠ 0#8 → s0.ime = true → ∃ t, step s = .next t ∧ t.halted = false ∧ t.cycles = some 5 ∧
      ∃ k, k < 5 ∧ s0.pend.getLsbD k = true ∧ t.pc = BitVec.ofNat 16 (0x40 + 8 * k)) ∧
    (s0.pend ≠ 0#8 → s0.ime = false → step s = runInstr s0.imePending s.awake ∧ s.awake.halted = false ∧
      (fetchInstr s.awake).2.ifReg = s0.ifReg ∧ (fetchInstr s.awake).2.halted = false)

/-- With ime = 1 and an interrupt pending and enabled the step services the lowest-numbered one, k, chosen before the push: PC is pushed (high byte at SP-1, then low byte at SP-2, two bus writes and no other access), bit k of IF is cleared (IF as the push left it, where SP points at it), PC is 0x0040 + 8k, halted is 0, ime is 0 unless an enable was armed before the step, which the latch commit then makes 1; an armed HALT bug stays armed under EI_HALT_MODE = source and is dropped under clear; 5 M-cycles; the registers and F are unchanged. Whatever the bus, memory and the peripherals are as these accesses left them; on RamBus the two bytes are stored and every other byte but IF is as it was. Formalises R304, R305. -/
def Obligations.ServiceTakesTheHighestPriority : Prop :=
  ∀ s : State, s.fault = none → s.beginStep.mem.wf = true → s.beginStep.serviceable →
    let s0 := s.beginStep
    ∃ t k, step s = .next t ∧ k < 5 ∧ s0.pend.getLsbD k = true ∧ (∀ j, j < k → s0.pend.getLsbD j = false) ∧
      t.pc = BitVec.ofNat 16 (0x40 + 8 * k) ∧
      t.sp = s0.sp - 2#16 ∧
      (s0.params.bus = .ram →
        (s0.sp - 1#16 ≠ s0.params.ifAddr → t.peek (s0.sp - 1#16) = s0.stored (s0.sp - 1#16) (hiByte s0.pc)) ∧
        (s0.sp - 2#16 ≠ s0.params.ifAddr → t.peek (s0.sp - 2#16) = s0.stored (s0.sp - 2#16) (loByte s0.pc)) ∧
        ∀ a, a ≠ s0.sp - 1#16 → a ≠ s0.sp - 2#16 → a ≠ s0.params.ifAddr → t.peek a = s0.peek a) ∧
      (let u := busWrite (s0.sp - 2#16) (loByte s0.pc) (busWrite (s0.sp - 1#16) (hiByte s0.pc) s0)
       t.mem = u.mem ∧ t.device = u.device ∧ t.ieReg = u.ieReg) ∧
      (let pushed := if s0.sp - 2#16 = s0.params.ifAddr then loByte s0.pc
          else if s0.sp - 1#16 = s0.params.ifAddr then hiByte s0.pc else s0.ifReg
        ∀ j, t.ifReg.getLsbD j = (pushed.getLsbD j && decide (j < 5) && decide (j ≠ k))) ∧
      t.bus = [.write (s0.sp - 1#16) (hiByte s0.pc), .write (s0.sp - 2#16) (loByte s0.pc)] ∧
      t.ime = s0.imePending ∧ t.imePending = false ∧ t.halted = false ∧
      t.haltBug = (s0.haltBug && decide (s0.params.eiHaltMode = .source)) ∧
      t.cycles = some 5 ∧ KeepsRegs s0 t [] ∧ t.f = s0.f ∧ t.fault = none ∧ t.params = s0.params ∧ t.schedule = s0.schedule

/-- Of a step that was not idle and did not fault: if it began with an enable armed, it ends with none pending, and with ime = 1 unless it ran DI, which cancels the enable and leaves ime = 0. If it began with none armed, it commits nothing: it ends with an enable pending exactly when the instruction it ran is EI, whose own step does not enable, and with ime = 1 exactly when it ran RETI, or began with ime = 1 and ran an instruction other than DI (so neither DI nor a service). A step that was idle or that faulted makes no commit: ime and the enable are as they were. Formalises R110. -/
def Obligations.ArmedEnableCommitsAtTheEndOfTheStep : Prop :=
  ∀ s t : State, s.fault = none → step s = .next t →
    (s.beginStep.idle ∨ t.fault ≠ none → t.ime = s.ime ∧ t.imePending = s.imePending) ∧
    (¬ s.beginStep.idle → t.fault = none →
      (s.imePending = true → t.imePending = false ∧ (t.ime = true ↔ ¬ (s.runs ∧ s.nextInstr = .di))) ∧
      (s.imePending = false →
        (t.imePending = true ↔ s.runs ∧ s.nextInstr = .ei) ∧
        (t.ime = true ↔ s.runs ∧ (s.nextInstr = .reti ∨ (s.ime = true ∧ s.nextInstr ≠ .di)))))

/-- If a step ends with ime = 1 where it was 0, an enable was armed before the step or the instruction it ran is RETI. If a step ends with ime = 0 where it was 1, the step serviced an interrupt or the instruction it ran is DI. Derived from 10_state.md R30, R31, 40_dispatch.md R110, 45_control.md R250, 46_system.md R273, R274. -/
def Obligations.OnlyEiAndRetiEnableInterrupts : Prop :=
  ∀ s t : State, step s = .next t →
    (s.ime = false → t.ime = true → s.imePending = true ∨ (s.runs ∧ s.nextInstr = .reti)) ∧
    (s.ime = true → t.ime = false → (¬ s.beginStep.idle ∧ s.beginStep.serviceable) ∨ (s.runs ∧ s.nextInstr = .di))

/-- From a running state with interrupts masked, no enable armed and no environment action to come, EI then NOP leaves ime = 0 after the EI and ime = 1 after the NOP; EI then DI leaves ime = 0 after both; in both, no enable is pending at the end and PC has moved two bytes. Derived from 70_reset_and_hazards.md R343, 46_system.md R270, R273, R274, 95_test_vectors.md 1.3. -/
def Obligations.EiThenNopEnablesAndEiThenDiDoesNot : Prop :=
  ∀ s : State, s.fault = none → s.halted = false → s.haltBug = false → s.ime = false → s.imePending = false →
    s.schedule = [] → s.peek s.pc = 0xFB#8 →
    ∃ t, step s = .next t ∧ t.ime = false ∧ t.imePending = true ∧ t.pc = s.pc + 1#16 ∧
      (t.peek t.pc = 0x00#8 → ∃ u, step t = .next u ∧ u.ime = true ∧ u.imePending = false ∧ u.pc = s.pc + 2#16) ∧
      (t.peek t.pc = 0xF3#8 → ∃ u, step t = .next u ∧ u.ime = false ∧ u.imePending = false ∧ u.pc = s.pc + 2#16)

/-- HALT with ime = 0 and an interrupt pending and enabled does not halt. The byte after it is fetched without advancing PC: a 1-byte instruction there runs with PC still at it, so it is fetched again, and a longer one takes its own opcode byte as its first operand byte or prefixed byte; on RamBus HALT ; LD A,0x14 (0x76 0x3E 0x14) executes LD A,0x3E and then INC D. Formalises R344. -/
def Obligations.HaltBugReadsTheByteTwice : Prop :=
  ∀ s : State, s.fault = none → s.halted = false → s.haltBug = false → s.ime = false → s.imePending = false →
    s.schedule = [] → s.pend ≠ 0#8 → s.peek s.pc = 0x76#8 →
    ∃ t, step s = .next t ∧ t.halted = false ∧ t.haltBug = true ∧ t.pc = s.pc + 1#16 ∧
      (∀ (n : Nat) (i : Instr), n ≤ 3 →
        decode (readAll ([s.pc + 1#16, s.pc + 1#16, s.pc + 2#16].take n) t.awake).1 = .ok (i, []) →
        t.runs ∧ t.nextInstr = i ∧ (fetchInstr t.awake).2.haltBug = false ∧
        (fetchInstr t.awake).2.pc = s.pc + 1#16 + BitVec.ofNat 16 (n - 1)) ∧
      (s.params.bus = .ram → s.peek (s.pc + 1#16) = 0x3E#8 → s.peek (s.pc + 2#16) = 0x14#8 →
        ∃ u v, step t = .next u ∧ u.a = 0x3E#8 ∧ u.pc = s.pc + 2#16 ∧ step u = .next v ∧ v.d = s.d + 1#8 ∧ v.pc = s.pc + 3#16)

/-- NOP changes nothing. DI clears ime and ime_pending_enable. EI sets ime_pending_enable and does not write ime. Each takes 1 M-cycle and leaves everything else, every byte of memory among it, as it was. Formalises R270, R273, R274. -/
def Obligations.NopDiAndEiEffects : Prop :=
  ∀ s : State,
    exec .nop s = .next { s with cycles := some 1 } ∧
    exec .di s = .next { s with ime := false, imePending := false, cycles := some 1 } ∧
    exec .ei s = .next { s with imePending := true, cycles := some 1 }

/-- HALT with ime = 0 and IF & IE & 0x1F not 0 arms the HALT bug and leaves halted as it is; in every other case it sets halted. It takes 1 M-cycle and changes nothing else. The test is on the five low bits of IF and IE and on ime as it is. Formalises R271. -/
def Obligations.HaltHaltsOrArmsTheBug : Prop :=
  ∀ s : State,
    (s.ime = false → s.ifReg &&& s.ieReg &&& 0x1F#8 ≠ 0#8 →
      exec .halt s = .next { s with haltBug := true, cycles := some 1 }) ∧
    (s.ime = true ∨ s.ifReg &&& s.ieReg &&& 0x1F#8 = 0#8 →
      exec .halt s = .next { s with halted := true, cycles := some 1 })

/-- STOP, its second byte fetched and whatever it is, raises StopUnmodelled under STOP_MODE = fault (no cycle count, nothing else changed) and does nothing in 1 M-cycle under STOP_MODE = nop. With both its bytes at PC, a step that runs it ends two bytes further. Formalises R272. -/
def Obligations.StopDoesWhatStopModeSays : Prop :=
  (∀ (s : State) (n : Byte),
    (s.params.stopMode = .fault → exec (.stop n) s = .next { s with fault := some .stopUnmodelled, cycles := none }) ∧
    (s.params.stopMode = .nop → exec (.stop n) s = .next { s with cycles := some 1 })) ∧
  ∀ s : State, s.runs → s.awake.haltBug = false → s.awake.peek s.awake.pc = 0x10#8 →
    ∃ t, step s = .next t ∧ t.pc = s.awake.pc + 2#16 ∧
      t.bus = [.read s.awake.pc 0x10#8, .read (s.awake.pc + 1#16) ((busRead s.awake.pc s.awake).2.peek (s.awake.pc + 1#16))] ∧
      t.fault = (if s.params.stopMode = .fault then some .stopUnmodelled else none)

/-- The effect of 0xCB is to fetch the next byte, advancing PC, and to run the instruction that byte is behind the prefix, with that instruction's duration. The model gives the prefix row this meaning, log 10. Derived from 40_dispatch.md R106, 46_system.md R275, 30_encoding.md R85. -/
def Obligations.PrefixRunsTheRowOfTheNextByte : Prop :=
  ∀ (s : State) (i : Instr), decode [0xCB#8, s.peek s.pc] = .ok (i, []) →
    exec .prefixCb s = exec i { (busRead s.pc s).2 with pc := s.pc + 1#16 } ∧
    ∃ t, exec .prefixCb s = .next t ∧ t.pc = s.pc + 1#16 ∧ t.cycles = some i.descriptor.cycles

/-- JP n16 sets PC to n16 in 4 M-cycles; JP cc,n16 does so in 4 M-cycles if its condition holds (NZ: Z=0, Z: Z=1, NC: C=0, C: C=1) and leaves PC past its operand in 3 if not; JP HL sets PC to HL in 1. No flag, register, byte of memory or bus access besides. Formalises R241, R242, R243. -/
def Obligations.JumpsSetPc : Prop :=
  ∀ (s : State) (n : Word),
    exec (.jpN16 n) s = .next { s with pc := n, cycles := some 4 } ∧
    exec .jpHl s = .next { s with pc := joinBytes s.h s.l, cycles := some 1 } ∧
    ∀ cc : Cond,
      let holds := match cc with
        | .nz => s.flagZ = false | .z => s.flagZ = true | .nc => s.flagC = false | .c => s.flagC = true
      (holds → exec (.ofJp cc n) s = .next { s with pc := n, cycles := some 4 }) ∧
      (¬ holds → exec (.ofJp cc n) s = .next { s with cycles := some 3 })

/-- JR e8 adds the signed byte to the address of the following instruction, modulo 2^16, in 3 M-cycles; JR cc,e8 does so in 3 if its condition holds and leaves PC past its operand in 2 if not. Nothing else changes. Formalises R244, R245. -/
def Obligations.RelativeJumpsAddTheSignedByte : Prop :=
  ∀ (s : State) (e : Byte),
    let target := BitVec.ofInt 16 ((s.pc.toNat : Int) + e.toInt)
    exec (.jrE8 e) s = .next { s with pc := target, cycles := some 3 } ∧
    ∀ cc : Cond,
      let holds := match cc with
        | .nz => s.flagZ = false | .z => s.flagZ = true | .nc => s.flagC = false | .c => s.flagC = true
      (holds → exec (.ofJr cc e) s = .next { s with pc := target, cycles := some 3 }) ∧
      (¬ holds → exec (.ofJr cc e) s = .next { s with cycles := some 2 })

/-- CALL n16 and RST t push PC, the address of the following instruction (high byte at SP-1, low byte at SP-2), and set PC to n16 in 6 M-cycles, or to t = 8 * y in 4. CALL cc,n16 does as CALL in 6 M-cycles if its condition holds; if not, it changes nothing in 3. Registers, flags and the control state are as they were. Whatever the bus, memory and the peripherals are as these accesses left them; on RamBus every byte but the two pushed is as it was. Formalises R246, R247, R251. -/
def Obligations.CallsPushTheReturnAddress : Prop :=
  ∀ s : State, s.mem.wf = true →
    let does (i : Instr) (target : Word) (n : Nat) : Prop := ∃ t, exec i s = .next t ∧ t.pc = target ∧
      Pushed s t s.pc ∧ t.cycles = some n ∧ KeepsRegs s t [] ∧ t.f = s.f ∧ KeepsControl s t
    (∀ n : Word, does (.callN16 n) n 6) ∧
    (∀ y : Fin 8, does (.ofRst y) (BitVec.ofNat 16 (8 * y.val)) 4) ∧
    ∀ (cc : Cond) (n : Word),
      let holds := match cc with
        | .nz => s.flagZ = false | .z => s.flagZ = true | .nc => s.flagC = false | .c => s.flagC = true
      (holds → does (.ofCall cc n) n 6) ∧ (¬ holds → exec (.ofCall cc n) s = .next { s with cycles := some 3 })

/-- RET pops PC (low byte at SP, high byte at SP+1, two bus reads) and leaves SP two higher, in 4 M-cycles. RET cc does so in 5 if its condition holds, and changes nothing, with no bus access, in 2 if not. RETI is RET and sets ime at once; ime_pending_enable is not changed. Nothing else changes but by the two reads: on RamBus no byte of memory. Formalises R248, R249, R250. -/
def Obligations.ReturnsPopThePc : Prop :=
  ∀ s : State,
    let lo := busRead s.sp s
    let hi := busRead (s.sp + 1#16) lo.2
    let popped (n : Nat) : State := { hi.2 with pc := joinBytes hi.1 lo.1, sp := s.sp + 2#16, cycles := some n }
    KeepsBytes s (popped 4) [] ∧
    exec .ret s = .next (popped 4) ∧
    exec .reti s = .next { popped 4 with ime := true } ∧
    ∀ cc : Cond,
      let holds := match cc with
        | .nz => s.flagZ = false | .z => s.flagZ = true | .nc => s.flagC = false | .c => s.flagC = true
      (holds → exec (.ofRet cc) s = .next (popped 5)) ∧ (¬ holds → exec (.ofRet cc) s = .next { s with cycles := some 2 })

/-- PUSH BC, DE, HL and AF store the pair: the high byte at SP-1 first, then the low byte at SP-2, SP two lower, in 4 M-cycles; AF's low byte is F with bits 3..0 as 0. Registers, flags, PC and the control state are as they were. Whatever the bus, memory and the peripherals are as these accesses left them; on RamBus every byte but those two is as it was. SP wraps modulo 2^16. Formalises R55, R221. -/
def Obligations.PushStoresHighThenLow : Prop :=
  ∀ (rr : R16stk) (s : State), s.mem.wf = true →
    let v := match rr with
      | .bc => joinBytes s.b s.c | .de => joinBytes s.d s.e | .hl => joinBytes s.h s.l
      | .af => joinBytes s.a (s.f &&& 0xF0#8)
    ∃ t, exec (.ofPush rr) s = .next t ∧ Pushed s t v ∧ t.pc = s.pc ∧ t.cycles = some 4 ∧
      KeepsRegs s t [] ∧ t.f = s.f ∧ KeepsControl s t

/-- POP BC, DE, HL and AF take the word at SP, low byte first, into the pair and leave SP two higher, in 3 M-cycles. For AF, F is the low byte with bits 3..0 cleared, so the four flags are its bits 7..4; for the others F is as it was. Nothing else changes but by the two bus reads: on RamBus no byte of memory. Formalises R56, R222. -/
def Obligations.PopLoadsLowThenHigh : Prop :=
  ∀ s : State,
    let first := busRead s.sp s
    let second := busRead (s.sp + 1#16) first.2
    let lo := first.1
    let hi := second.1
    let popped : State := { second.2 with sp := s.sp + 2#16, cycles := some 3 }
    KeepsBytes s popped [] ∧
    exec .popBc s = .next { popped with b := hi, c := lo } ∧
    exec .popDe s = .next { popped with d := hi, e := lo } ∧
    exec .popHl s = .next { popped with h := hi, l := lo } ∧
    exec .popAf s = .next { popped with a := hi, f := lo &&& 0xF0#8 } ∧
    ∀ t, exec .popAf s = .next t → t.flagZ = lo.getLsbD 7 ∧ t.flagN = lo.getLsbD 6 ∧ t.flagH = lo.getLsbD 5 ∧
      t.flagC = lo.getLsbD 4 ∧ t.f &&& 0x0F#8 = 0#8

/-- On RamBus, when neither stack byte falls on IF or IE, PUSH rr followed by POP rr gives back the pair, SP, and, where bits 3..0 of F are 0, F: every register is as it was. Derived from 44_load.md R221, R222, 20_memory.md R52, 95_test_vectors.md 1.4. -/
def Obligations.PushThenPopRestoresThePair : Prop :=
  ∀ (rr : R16stk) (s t u : State), s.params.bus = .ram → s.mem.wf = true → s.f &&& 0x0F#8 = 0#8 →
    (∀ a ∈ [s.sp - 1#16, s.sp - 2#16], a ≠ s.params.ifAddr ∧ a ≠ s.params.ieAddr) →
    exec (.ofPush rr) s = .next t → exec (.ofPop rr) t = .next u →
    KeepsRegs s u [] ∧ u.f = s.f ∧ u.sp = s.sp ∧ u.pc = s.pc

/-- LD r8,r8' copies the source register to the destination in 1 M-cycle; LD r8,n8 loads the immediate in 2. No flag, no other register, no byte of memory and no bus access after the fetch. Formalises R200, R201. -/
def Obligations.RegisterAndImmediateLoads : Prop :=
  ∀ (dst : Reg) (s : State),
    let loads (i : Instr) (v : Byte) (n : Nat) : Prop := ∃ t, exec i s = .next t ∧ t.reg dst = v ∧ KeepsRegs s t [dst] ∧
      KeepsFSpPc s t ∧ KeepsBytes s t [] ∧ KeepsControl s t ∧ t.cycles = some n ∧ SameEnv s t
    (∀ r : Reg, loads (.ofLd dst r) (s.reg r) 1) ∧ ∀ n : Byte, loads (.ofLdN8 dst n) n 2

/-- LD r8,(HL) loads the byte at HL, HL as it was before, in 2 M-cycles with one bus read. LD (HL),r8 and LD (HL),n8 store the register, in 2, or the immediate, in 3, at HL with one bus write. No flag and no other register changes. Whatever the bus, memory and the peripherals are as these accesses left them; on RamBus the byte written reads back and every other byte is as it was. Formalises R202, R203, R204. -/
def Obligations.LoadsAndStoresThroughHl : Prop :=
  ∀ s : State, s.mem.wf = true →
    let stores (i : Instr) (v : Byte) (n : Nat) : Prop := ∃ t, exec i s = .next t ∧
      (s.params.bus = .ram → t.peek s.hl = s.stored s.hl v) ∧ KeepsBytes s t [s.hl] ∧ KeepsRegs s t [] ∧ KeepsFSpPc s t ∧ KeepsControl s t ∧
      t.cycles = some n ∧ SameEnv (busWrite s.hl v s) t
    (∀ dst : Reg, ∃ t, exec (.ofLdFromHl dst) s = .next t ∧ t.reg dst = s.peek s.hl ∧ KeepsRegs s t [dst] ∧ KeepsFSpPc s t ∧
      KeepsBytes s t [] ∧ KeepsControl s t ∧ t.cycles = some 2 ∧ SameEnv (busRead s.hl s).2 t) ∧
    (∀ r : Reg, stores (.ofLdToHl r) (s.reg r) 2) ∧ ∀ n : Byte, stores (.ldAtHlN8 n) n 3

/-- A is loaded from the byte at BC, DE or HL in 2 M-cycles with one bus read; LD A,(HL+) then increments HL and LD A,(HL-) decrements it, modulo 2^16. No flag and no other register changes, and the environment only by that read: on RamBus no byte of memory. Formalises R205, R213, R214. -/
def Obligations.AccumulatorLoadsThroughPairs : Prop :=
  ∀ (m : R16mem) (s : State),
    let ptr := match m with
      | .bc => joinBytes s.b s.c | .de => joinBytes s.d s.e | .hli => joinBytes s.h s.l | .hld => joinBytes s.h s.l
    let hl' := match m with
      | .bc => s.hl | .de => s.hl | .hli => s.hl + 1#16 | .hld => s.hl - 1#16
    ∃ t, exec (.ofLdAFromMem m) s = .next t ∧ t.a = s.peek ptr ∧ joinBytes t.h t.l = hl' ∧ KeepsRegs s t [.a, .h, .l] ∧
      KeepsFSpPc s t ∧ KeepsBytes s t [] ∧ KeepsControl s t ∧ t.cycles = some 2 ∧ SameEnv (busRead ptr s).2 t

/-- A is stored at BC, DE or HL in 2 M-cycles with one bus write; LD (HL+),A then increments HL and LD (HL-),A decrements it, modulo 2^16. No flag and no other register changes. Whatever the bus, memory and the peripherals are as these accesses left them; on RamBus the byte written reads back and every other byte is as it was. Formalises R206, R215, R216. -/
def Obligations.AccumulatorStoresThroughPairs : Prop :=
  ∀ (m : R16mem) (s : State), s.mem.wf = true →
    let ptr := match m with
      | .bc => joinBytes s.b s.c | .de => joinBytes s.d s.e | .hli => joinBytes s.h s.l | .hld => joinBytes s.h s.l
    let hl' := match m with
      | .bc => s.hl | .de => s.hl | .hli => s.hl + 1#16 | .hld => s.hl - 1#16
    ∃ t, exec (.ofLdMemFromA m) s = .next t ∧ (s.params.bus = .ram → t.peek ptr = s.stored ptr s.a) ∧ KeepsBytes s t [ptr] ∧
      joinBytes t.h t.l = hl' ∧ KeepsRegs s t [.h, .l] ∧ KeepsFSpPc s t ∧ KeepsControl s t ∧ t.cycles = some 2 ∧
      SameEnv (busWrite ptr s.a s) t

/-- A is loaded from the byte at n16 in 4 M-cycles, at 0xFF00 + n8 in 3, at 0xFF00 + C in 2, with one bus read. Nothing else changes but by that read: on RamBus no byte of memory. An address that is IF_ADDR or IE_ADDR reads IF or IE. Formalises R207, R209, R211. -/
def Obligations.AccumulatorLoadsFromAddresses : Prop :=
  ∀ s : State,
    let loaded (addr : Word) (n : Nat) : State :=
      { (busRead addr s).2 with a := (busRead addr s).1, cycles := some n }
    (∀ (addr : Word) (n : Nat), KeepsBytes s (loaded addr n) [] ∧
      (addr = s.params.ifAddr → (loaded addr n).a = s.ifReg &&& 0x1F#8) ∧
      (addr = s.params.ieAddr → s.params.ieAddr ≠ s.params.ifAddr → (loaded addr n).a = s.ieReg &&& 0x1F#8)) ∧
    (∀ n : Word, exec (.ldAAtN16 n) s = .next (loaded n 4)) ∧
    (∀ n : Byte, exec (.ldhAAtN8 n) s = .next (loaded (BitVec.ofNat 16 (0xFF00 + n.toNat)) 3)) ∧
    exec .ldhAAtC s = .next (loaded (BitVec.ofNat 16 (0xFF00 + s.c.toNat)) 2)

/-- A is stored at n16 in 4 M-cycles, at 0xFF00 + n8 in 3, at 0xFF00 + C in 2, with one bus write; a store to IF_ADDR or IE_ADDR changes IF or IE, bits 7..5 forced to 0. Registers, flags, SP, PC and the control state are as they were. Whatever the bus, memory and the peripherals are as these accesses left them; on RamBus the byte written reads back and every other byte is as it was. Formalises R208, R210, R212. -/
def Obligations.AccumulatorStoresToAddresses : Prop :=
  ∀ s : State, s.mem.wf = true →
    let stores (i : Instr) (addr : Word) (n : Nat) : Prop := ∃ t, exec i s = .next t ∧
      (s.params.bus = .ram → t.peek addr = s.stored addr s.a) ∧ KeepsBytes s t [addr] ∧ KeepsRegs s t [] ∧ KeepsFSpPc s t ∧ KeepsControl s t ∧
      t.cycles = some n ∧ SameEnv (busWrite addr s.a s) t ∧ (addr = s.params.ifAddr → t.ifReg = s.a &&& 0x1F#8) ∧
      (addr = s.params.ieAddr → s.params.ieAddr ≠ s.params.ifAddr → t.ieReg = s.a &&& 0x1F#8)
    (∀ n : Word, stores (.ldAtN16A n) n 4) ∧
    (∀ n : Byte, stores (.ldhAtN8A n) (BitVec.ofNat 16 (0xFF00 + n.toNat)) 3) ∧
    stores .ldhAtCA (BitVec.ofNat 16 (0xFF00 + s.c.toNat)) 2

/-- LD BC, DE, HL or SP,n16 loads the pair (high byte in the first-named register) or SP with n16 in 3 M-cycles; LD SP,HL sets SP to HL in 2. Nothing else changes and there is no bus access. Formalises R217, R219. -/
def Obligations.WordLoadsIntoPairsAndSp : Prop :=
  ∀ (n : Word) (s : State),
    exec (.ldBcN16 n) s = .next { s with b := hiByte n, c := loByte n, cycles := some 3 } ∧
    exec (.ldDeN16 n) s = .next { s with d := hiByte n, e := loByte n, cycles := some 3 } ∧
    exec (.ldHlN16 n) s = .next { s with h := hiByte n, l := loByte n, cycles := some 3 } ∧
    exec (.ldSpN16 n) s = .next { s with sp := n, cycles := some 3 } ∧
    exec .ldSpHl s = .next { s with sp := joinBytes s.h s.l, cycles := some 2 }

/-- LD (n16),SP stores SP's low byte at n16 and then its high byte at n16 + 1 (modulo 2^16), two bus writes, in 5 M-cycles; registers, flags, SP, PC and the control state are as they were. Whatever the bus, memory and the peripherals are as these accesses left them; on RamBus the two bytes read back and every other byte is as it was. Formalises R218. -/
def Obligations.SpIsStoredLowByteFirst : Prop :=
  ∀ (n : Word) (s : State), s.mem.wf = true →
    ∃ t, exec (.ldAtN16Sp n) s = .next t ∧
      (s.params.bus = .ram → t.peek n = s.stored n (loByte s.sp) ∧
        t.peek (n + 1#16) = s.stored (n + 1#16) (hiByte s.sp)) ∧ KeepsBytes s t [n, n + 1#16] ∧ KeepsRegs s t [] ∧
      KeepsFSpPc s t ∧ KeepsControl s t ∧ t.cycles = some 5 ∧
      SameEnv (busWrite (n + 1#16) (hiByte s.sp) (busWrite n (loByte s.sp) s)) t

/-- ADD SP,e8 sets SP, and LD HL,SP+e8 sets HL, to SP plus the signed byte modulo 2^16, in 4 and 3 M-cycles. Z and N are 0. For a byte that is not negative, or under SPE8_HC_RULE = unsigned_low_byte, H and C are the carries out of bits 3 and 7 of SP's low byte plus the byte; for a negative byte under source_positive_only they are 0. F's bits 3..0 are 0; nothing else changes and there is no bus access. Formalises R150, R154, R220. -/
def Obligations.SpPlusSignedByte : Prop :=
  ∀ (e : Byte) (s : State),
    let r := BitVec.ofInt 16 ((s.sp.toNat : Int) + e.toInt)
    let evaluated := 0 ≤ e.toInt ∨ s.params.spE8Rule = .unsignedLowByte
    let flags (t : State) : Prop := t.flagZ = false ∧ t.flagN = false ∧
      (t.flagH = true ↔ evaluated ∧ s.sp.toNat % 16 + e.toNat % 16 > 15) ∧
      (t.flagC = true ↔ evaluated ∧ s.sp.toNat % 256 + e.toNat > 255) ∧ t.f &&& 0x0F#8 = 0#8
    (∃ t, exec (.addSpE8 e) s = .next t ∧ flags t ∧ t = { s with sp := r, f := t.f, cycles := some 4 }) ∧
    ∃ t, exec (.ldHlSpE8 e) s = .next t ∧ flags t ∧ t = { s with h := hiByte r, l := loByte r, f := t.f, cycles := some 3 }

/-- For every source x (a register, (HL), an immediate), A becomes A + x, for ADC plus the incoming carry, modulo 2^8; Z is the result being 0, N is 0, H the carry out of bit 3 and C the carry out of bit 7 of the exact sum. 1 M-cycle on a register, 2 on (HL) or n8; (HL) is one bus read. No other register and no other state changes, and the environment only by that read: on RamBus no byte of memory. Formalises R121, R122. -/
def Obligations.AddAndAdcSumAndFlags : Prop :=
  ∀ (withCarry : Bool) (x : AluSrc) (s : State),
    let v := s.aluValue x
    let cin := if withCarry then s.flagC.toNat else 0
    ∃ t, exec (.ofAlu (if withCarry then .adc else .add) x) s = .next t ∧
      t = { s.aluAfter x with a := t.a, f := t.f, cycles := some x.cost } ∧
      t.a.toNat = (s.a.toNat + v.toNat + cin) % 256 ∧
      (t.flagZ = true ↔ t.a = 0#8) ∧ t.flagN = false ∧
      (t.flagH = true ↔ s.a.toNat % 16 + v.toNat % 16 + cin > 15) ∧
      (t.flagC = true ↔ s.a.toNat + v.toNat + cin > 255) ∧ t.f &&& 0x0F#8 = 0#8 ∧ KeepsBytes s t []

/-- For every source x, A becomes A - x, for SBC minus the incoming carry, modulo 2^8; Z is the result being 0, N is 1, H is set when the low nibble of x, plus the carry, exceeds that of A, C when x, plus the carry, exceeds A. Durations and frame as for ADD. Formalises R123, R124. -/
def Obligations.SubAndSbcDifferenceAndFlags : Prop :=
  ∀ (withCarry : Bool) (x : AluSrc) (s : State),
    let v := s.aluValue x
    let cin := if withCarry then s.flagC.toNat else 0
    ∃ t, exec (.ofAlu (if withCarry then .sbc else .sub) x) s = .next t ∧
      t = { s.aluAfter x with a := t.a, f := t.f, cycles := some x.cost } ∧
      (t.a.toNat + v.toNat + cin) % 256 = s.a.toNat ∧
      (t.flagZ = true ↔ t.a = 0#8) ∧ t.flagN = true ∧
      (t.flagH = true ↔ v.toNat % 16 + cin > s.a.toNat % 16) ∧
      (t.flagC = true ↔ v.toNat + cin > s.a.toNat) ∧ t.f &&& 0x0F#8 = 0#8 ∧ KeepsBytes s t []

/-- For every source x, A becomes the bitwise AND, XOR or OR of A and x; Z is the result being 0, N and C are 0, H is 1 after AND and 0 after XOR and OR. Durations and frame as for ADD. Formalises R125, R126, R127. -/
def Obligations.LogicOperationsAndFlags : Prop :=
  ∀ (op : AluOp) (f : Bool → Bool → Bool) (x : AluSrc) (s : State),
    (op = .and ∧ f = and) ∨ (op = .xor ∧ f = Bool.xor) ∨ (op = .or ∧ f = or) →
    ∃ t, exec (.ofAlu op x) s = .next t ∧
      t = { s.aluAfter x with a := t.a, f := t.f, cycles := some x.cost } ∧
      (∀ i, i < 8 → t.a.getLsbD i = f (s.a.getLsbD i) ((s.aluValue x).getLsbD i)) ∧
      (t.flagZ = true ↔ t.a = 0#8) ∧ t.flagN = false ∧ t.flagH = decide (op = .and) ∧ t.flagC = false ∧
      t.f &&& 0x0F#8 = 0#8 ∧ KeepsBytes s t []

/-- CP sets the flags of the subtraction A - x and writes no register: Z exactly when A = x, N is 1, H when the low nibble of x exceeds that of A, C exactly when A < x. Durations and frame as for ADD; the flags are those SUB with the same source leaves. Formalises R128. -/
def Obligations.CompareWritesFlagsOnly : Prop :=
  ∀ (x : AluSrc) (s : State),
    let v := s.aluValue x
    ∃ t, exec (.ofAlu .cp x) s = .next t ∧ t = { s.aluAfter x with f := t.f, cycles := some x.cost } ∧
      (t.flagZ = true ↔ s.a = v) ∧ t.flagN = true ∧ (t.flagH = true ↔ v.toNat % 16 > s.a.toNat % 16) ∧
      (t.flagC = true ↔ s.a.toNat < v.toNat) ∧ t.f &&& 0x0F#8 = 0#8 ∧ KeepsBytes s t [] ∧
      ∀ u, exec (.ofAlu .sub x) s = .next u → t.f = u.f

/-- INC adds 1 and DEC subtracts 1, modulo 2^8, in a register (1 M-cycle) or in the byte at HL (3, one read and then one write). Z is the result being 0; N is 0 after INC and 1 after DEC; H is set when the low nibble was 0xF before INC, 0 before DEC; C is unchanged. No other register and no other state changes. Whatever the bus, memory and the peripherals are as these accesses left them; on RamBus the byte at HL becomes the result and no other byte changes. Formalises R129, R130. -/
def Obligations.IncAndDecR8 : Prop :=
  ∀ (r : R8) (s : State), s.mem.wf = true →
    let v := s.r8Value r
    (∃ t, exec (.ofInc8 r) s = .next t ∧ ModifiesR8 s t r (v + 1#8) ∧ (t.flagZ = true ↔ v.toNat = 255) ∧ t.flagN = false ∧
      (t.flagH = true ↔ v.toNat % 16 = 15) ∧ t.flagC = s.flagC ∧ t.f &&& 0x0F#8 = 0#8 ∧ t.cycles = some (r.cost 1 3)) ∧
    ∃ t, exec (.ofDec8 r) s = .next t ∧ ModifiesR8 s t r (v - 1#8) ∧ (t.flagZ = true ↔ v.toNat = 1) ∧ t.flagN = true ∧
      (t.flagH = true ↔ v.toNat % 16 = 0) ∧ t.flagC = s.flagC ∧ t.f &&& 0x0F#8 = 0#8 ∧ t.cycles = some (r.cost 1 3)

/-- With N = 0, DAA adds 0x60 and sets C if C is set or A > 0x99, and adds 0x06 if H is set or the low nibble of A is over 9. With N = 1 it subtracts 0x60 if C is set and 0x06 if H is set, C unchanged. All modulo 2^8. Z is the result being 0, N unchanged, H 0. 1 M-cycle; nothing else changes. Formalises R131. -/
def Obligations.DaaAdjustsByTheFlags : Prop :=
  ∀ s : State, ∃ t, exec .daa s = .next t ∧ t = { s with a := t.a, f := t.f, cycles := some 1 } ∧
    (let hi := s.flagC = true ∨ s.a.toNat > 0x99
     let lo := s.flagH = true ∨ s.a.toNat % 16 > 9
     s.flagN = false →
      t.a.toNat = (s.a.toNat + (if hi then 0x60 else 0) + (if lo then 0x06 else 0)) % 256 ∧ (t.flagC = true ↔ hi)) ∧
    (s.flagN = true →
      (t.a.toNat + (if s.flagC then 0x60 else 0) + (if s.flagH then 0x06 else 0)) % 256 = s.a.toNat ∧ t.flagC = s.flagC) ∧
    (t.flagZ = true ↔ t.a = 0#8) ∧ t.flagN = s.flagN ∧ t.flagH = false ∧ t.f &&& 0x0F#8 = 0#8

/-- With A and B holding the two-digit decimal numbers x and y in BCD, ADD A,B followed by DAA leaves in A the BCD of (x + y) mod 100, C set exactly when the sum is 100 or more, and Z set exactly when (x + y) mod 100 is 0. Derived from 41_alu8.md R121, R131, 95_test_vectors.md 1.2. -/
def Obligations.AddThenDaaAddsDecimalNumbers : Prop :=
  ∀ (x y : Fin 100) (s t u : State),
    let bcd (n : Nat) : Byte := BitVec.ofNat 8 (16 * (n / 10) + n % 10)
    s.a = bcd x.val → s.b = bcd y.val → exec .addAB s = .next t → exec .daa t = .next u →
    u.a = bcd ((x.val + y.val) % 100) ∧ (u.flagC = true ↔ 100 ≤ x.val + y.val) ∧ (u.flagZ = true ↔ (x.val + y.val) % 100 = 0)

/-- CPL complements A and sets N and H, Z and C unchanged. SCF sets C, CCF complements C; both clear N and H and leave Z and A. Each takes 1 M-cycle; nothing else changes. Formalises R132, R133, R134. -/
def Obligations.CplScfAndCcf : Prop :=
  ∀ s : State,
    (∃ t, exec .cpl s = .next t ∧ t = { s with a := ~~~s.a, f := t.f, cycles := some 1 } ∧ t.flagZ = s.flagZ ∧
      t.flagN = true ∧ t.flagH = true ∧ t.flagC = s.flagC ∧ t.f &&& 0x0F#8 = 0#8) ∧
    (∃ t, exec .scf s = .next t ∧ t = { s with f := t.f, cycles := some 1 } ∧ t.flagZ = s.flagZ ∧
      t.flagN = false ∧ t.flagH = false ∧ t.flagC = true ∧ t.f &&& 0x0F#8 = 0#8) ∧
    ∃ t, exec .ccf s = .next t ∧ t = { s with f := t.f, cycles := some 1 } ∧ t.flagZ = s.flagZ ∧
      t.flagN = false ∧ t.flagH = false ∧ t.flagC = !s.flagC ∧ t.f &&& 0x0F#8 = 0#8

/-- HL becomes HL + BC, DE, HL or SP modulo 2^16; N is 0, H the carry out of bit 11, C the carry out of bit 15, Z unchanged. 2 M-cycles; nothing else changes and there is no bus access. Formalises R151. -/
def Obligations.AddHlSumAndFlags : Prop :=
  ∀ (rr : R16) (s : State),
    let v := match rr with
      | .bc => joinBytes s.b s.c | .de => joinBytes s.d s.e | .hl => joinBytes s.h s.l | .sp => s.sp
    ∃ t, exec (.ofAddHl rr) s = .next t ∧ t = { s with h := t.h, l := t.l, f := t.f, cycles := some 2 } ∧
      (joinBytes t.h t.l).toNat = (s.hl.toNat + v.toNat) % 65536 ∧ t.flagZ = s.flagZ ∧ t.flagN = false ∧
      (t.flagH = true ↔ s.hl.toNat % 4096 + v.toNat % 4096 > 4095) ∧
      (t.flagC = true ↔ s.hl.toNat + v.toNat > 65535) ∧ t.f &&& 0x0F#8 = 0#8

/-- INC adds 1 to, and DEC subtracts 1 from, BC, DE, HL or SP, modulo 2^16, in 2 M-cycles. No flag, no other register, no byte of memory, no other state changes and there is no bus access. Formalises R152, R153. -/
def Obligations.IncAndDecR16SetNoFlags : Prop :=
  ∀ (rr : R16) (s : State),
    let value (t : State) : Word := match rr with
      | .bc => joinBytes t.b t.c | .de => joinBytes t.d t.e | .hl => joinBytes t.h t.l | .sp => t.sp
    let written : List Reg := match rr with
      | .bc => [.b, .c] | .de => [.d, .e] | .hl => [.h, .l] | .sp => []
    let does (i : Instr) (v : Word) : Prop := ∃ t, exec i s = .next t ∧ value t = v ∧ KeepsRegs s t written ∧
      t.f = s.f ∧ (rr ≠ .sp → t.sp = s.sp) ∧ t.pc = s.pc ∧ KeepsBytes s t [] ∧ KeepsControl s t ∧ t.cycles = some 2 ∧ SameEnv s t
    does (.ofInc16 rr) (value s + 1#16) ∧ does (.ofDec16 rr) (value s - 1#16)

/-- RLCA and RRCA rotate A by one bit left and right, RLA and RRA through C. C is the bit rotated out; Z, N and H are 0 whatever A becomes. 1 M-cycle; nothing else changes. Formalises R170, R171, R172, R173. -/
def Obligations.AccumulatorRotatesClearZ : Prop :=
  ∀ s : State,
    let does (i : Instr) (bit : Nat → Bool) (out : Bool) : Prop := ∃ t, exec i s = .next t ∧
      t = { s with a := t.a, f := t.f, cycles := some 1 } ∧ (∀ k, k < 8 → t.a.getLsbD k = bit k) ∧
      t.flagZ = false ∧ t.flagN = false ∧ t.flagH = false ∧ t.flagC = out ∧ t.f &&& 0x0F#8 = 0#8
    does .rlca (fun k => if k = 0 then s.a.getLsbD 7 else s.a.getLsbD (k - 1)) (s.a.getLsbD 7) ∧
    does .rrca (fun k => if k = 7 then s.a.getLsbD 0 else s.a.getLsbD (k + 1)) (s.a.getLsbD 0) ∧
    does .rla (fun k => if k = 0 then s.flagC else s.a.getLsbD (k - 1)) (s.a.getLsbD 7) ∧
    does .rra (fun k => if k = 7 then s.flagC else s.a.getLsbD (k + 1)) (s.a.getLsbD 0)

/-- Each bit of the result of the eight 0xCB rotates and shifts is the bit of the operand, or the carry, or 0, that its rule names; Z is the result being 0, N and H are 0, C is the bit shifted out (0 for SWAP). 2 M-cycles on a register; on (HL) 4, one read and then one write. No other register or state changes. Whatever the bus, memory and the peripherals are as these accesses left them; on RamBus the byte at HL becomes the result and no other byte changes. Formalises R175, R176, R177, R178, R179, R180, R181, R182. -/
def Obligations.PrefixedRotatesAndShifts : Prop :=
  ∀ (op : RotOp) (r : R8) (s : State), s.mem.wf = true →
    let v := s.r8Value r
    let bit (k : Nat) : Bool := match op with
      | .rlc => if k = 0 then v.getLsbD 7 else v.getLsbD (k - 1)
      | .rrc => if k = 7 then v.getLsbD 0 else v.getLsbD (k + 1)
      | .rl => if k = 0 then s.flagC else v.getLsbD (k - 1)
      | .rr => if k = 7 then s.flagC else v.getLsbD (k + 1)
      | .sla => if k = 0 then false else v.getLsbD (k - 1)
      | .sra => if k = 7 then v.getLsbD 7 else v.getLsbD (k + 1)
      | .swap => if k < 4 then v.getLsbD (k + 4) else v.getLsbD (k - 4)
      | .srl => if k = 7 then false else v.getLsbD (k + 1)
    let out := match op with
      | .rlc | .rl | .sla => v.getLsbD 7
      | .rrc | .rr | .sra | .srl => v.getLsbD 0
      | .swap => false
    ∃ t new, exec (.ofRot op r) s = .next t ∧ ModifiesR8 s t r new ∧ (∀ k, k < 8 → new.getLsbD k = bit k) ∧
      (t.flagZ = true ↔ new = 0#8) ∧ t.flagN = false ∧ t.flagH = false ∧ t.flagC = out ∧ t.f &&& 0x0F#8 = 0#8 ∧
      t.cycles = some (r.cost 2 4)

/-- BIT sets Z exactly when bit u3 of the operand is 0, clears N, sets H and leaves C; the operand is only read: one bus read for (HL). 2 M-cycles on a register, 3 on (HL). Nothing else changes, no register, and the environment only by that read: on RamBus no byte of memory. Formalises R183. -/
def Obligations.BitTestsOneBit : Prop :=
  ∀ (u : Fin 8) (r : R8) (s : State), ∃ t, exec (.ofBit u r) s = .next t ∧
    t = { s.r8After r with f := t.f, cycles := some (r.cost 2 3) } ∧
    (t.flagZ = true ↔ (s.r8Value r).getLsbD u.val = false) ∧ t.flagN = false ∧ t.flagH = true ∧ t.flagC = s.flagC ∧
    t.f &&& 0x0F#8 = 0#8 ∧ KeepsBytes s t []

/-- RES clears and SET sets bit u3 of the operand and no other bit of it; F is unchanged. 2 M-cycles on a register; on (HL) 4, one read and then one write, which happens even when the bit is right already. No other register or state changes. Whatever the bus, memory and the peripherals are as these accesses left them; on RamBus the byte at HL becomes the result and no other byte changes. Formalises R184, R185. -/
def Obligations.ResAndSetChangeOneBit : Prop :=
  ∀ (u : Fin 8) (r : R8) (s : State), s.mem.wf = true →
    let does (i : Instr) (b : Bool) : Prop := ∃ t new, exec i s = .next t ∧ ModifiesR8 s t r new ∧
      (∀ k, k < 8 → new.getLsbD k = if k = u.val then b else (s.r8Value r).getLsbD k) ∧ t.f = s.f ∧ t.cycles = some (r.cost 2 4)
    does (.ofRes u r) false ∧ does (.ofSet u r) true

/-- After reset A=0x01, F=0xB0, B=0x00, C=0x13, D=0x00, E=0xD8, H=0x01, L=0x4D, SP=0xFFFE, PC=0x0100; not halted, interrupts masked, no enable pending, no HALT bug armed, no fault; Z=1, N=0, H=1, C=1; IF and IE are the parameters IF_RESET and IE_RESET, for every choice of the parameters; the first step fetches at 0x0100. That State.reset takes the parameters of Params.default is the model's choice: the defaults of R8 (log 3), with IF_RESET 0x01 and IE_RESET 0x00 (log 4) and the bus RamBus (log 1). Derived from 10_state.md R36, 70_reset_and_hazards.md R340, R341, 00_scope.md R8. -/
def Obligations.ResetLeavesThePostBootValues : Prop :=
  ∀ p : Params,
    let s := State.resetWith p
    s.a = 0x01#8 ∧ s.f = 0xB0#8 ∧ s.b = 0x00#8 ∧ s.c = 0x13#8 ∧ s.d = 0x00#8 ∧ s.e = 0xD8#8 ∧ s.h = 0x01#8 ∧ s.l = 0x4D#8 ∧
    s.sp = 0xFFFE#16 ∧ s.pc = 0x0100#16 ∧ s.halted = false ∧ s.ime = false ∧ s.imePending = false ∧ s.haltBug = false ∧
    s.fault = none ∧ s.ifReg.toNat = p.ifReset.toNat ∧ s.ieReg.toNat = p.ieReset.toNat ∧
    s.flagZ = true ∧ s.flagN = false ∧ s.flagH = true ∧ s.flagC = true ∧ s.runs ∧
    (fetchOpcode s.awake).2.bus = [.read 0x0100#16 (s.peek 0x0100#16)] ∧ State.reset = State.resetWith Params.default

/-- For every choice of the parameters the state after reset meets the invariant: F's bits 3..0 and IF's and IE's bits 7..5 are 0, memory is in its canonical form, a halted core has no enable pending and no HALT bug armed, the fault is not IllegalOperand. Derived from 10_state.md R24, R33 to R36. -/
def Obligations.InvariantHoldsAtReset : Prop :=
  ∀ p : Params, (State.resetWith p).Inv

/-- From every state that meets the invariant, whatever the environment does before the step, a step that answers a next state answers one that meets it: F's bits 3..0 stay 0, IF's and IE's bits 7..5 stay 0, memory stays in its canonical form, a halted core has no enable pending and no HALT bug armed, and IllegalOperand is never raised. Derived from 10_state.md R24, R34, R35, 40_dispatch.md R103, 46_system.md R271, 60_exceptions.md R312. -/
def Obligations.EveryStepKeepsTheInvariant : Prop :=
  ∀ s t : State, s.Inv → step s = .next t → t.Inv

/-- Every instruction answers a next state from every state, and the fault after it is the fault before it unless the instruction is an UNUSED row, which raises UnusedOpcode of its opcode, or STOP under STOP_MODE = fault, which raises StopUnmodelled: no address and no operand value causes a fault. A step never answers a refusal, and answers a fault only from a state that holds it. Derived from 60_exceptions.md R312, R314, 30_encoding.md R91. -/
def Obligations.FaultsComeOnlyFromUnusedAndStop : Prop :=
  (∀ (i : Instr) (s : State), ∃ t, exec i s = .next t ∧ (t.fault = s.fault ∨
    (∃ op, (op, i) ∈ Instr.unusedRows ∧ t.fault = some (.unusedOpcode op)) ∨
    (∃ n, i = .stop n ∧ s.params.stopMode = .fault ∧ t.fault = some .stopUnmodelled))) ∧
  ∀ s : State, (∃ t, step s = .next t) ∨ ∃ f, s.fault = some f ∧ step s = .fault f

/-- Whatever a step does, the parameters after it are those before it, and it has consumed one batch of the environment's plan: the model's own fields are touched nowhere else (log 3, log 6). Derived from 00_scope.md R8. -/
def Obligations.ParametersNeverChange : Prop :=
  ∀ s t : State, step s = .next t → t.params = s.params ∧ t.schedule = s.schedule.tail

/-- By default IF_ADDR and IE_ADDR are 0xFF0F and 0xFFFF. Whatever the bus, a read at IF_ADDR or IE_ADDR answers IF or IE with bits 7..5 as 0; a write there stores bits 4..0 of the byte in IF or IE, bits 7..5 as 0; no read, and no write at another address, changes IF or IE. Under RamBus a read changes only the record of accesses, and a byte written at any address is read back there (through the mask of IF and IE), leaves every other byte, and changes nothing but memory, IF, IE and the record. Under the bus of a platform the byte read elsewhere than at IF and IE, and the side effects of every access on memory and on the peripherals, are what the platform's two functions say, which are left open, and nothing else changes. The clause on RamBus is R52's and R61's instance, not R63. That the bus is RamBus or one of numbered platforms is the model's choice (log 1); that the side effects of an access leave IF and IE alone is the model's deduction from R306, R320 and D28 (log 1); two addresses are assumed (log 5). Derived from 20_memory.md R51, R52, R61, R63, 60_exceptions.md R306, R320, 92_eei_decisions.md D4, D5, D28. -/
def Obligations.BusMapsIfAndIe : Prop :=
  (Params.default.ifAddr = 0xFF0F#16 ∧ Params.default.ieAddr = 0xFFFF#16) ∧
  ∀ s : State, s.params.ifAddr ≠ s.params.ieAddr → s.mem.wf = true →
    ((busRead s.params.ifAddr s).1 = s.ifReg &&& 0x1F#8 ∧ (busRead s.params.ieAddr s).1 = s.ieReg &&& 0x1F#8) ∧
    (∀ a, (busRead a s).2.ifReg = s.ifReg ∧ (busRead a s).2.ieReg = s.ieReg) ∧
    ∀ (a : Word) (v : Byte),
      let ifReg' := if a = s.params.ifAddr then v &&& 0x1F#8 else s.ifReg
      let ieReg' := if a = s.params.ieAddr then v &&& 0x1F#8 else s.ieReg
      ((busWrite a v s).ifReg = ifReg' ∧ (busWrite a v s).ieReg = ieReg') ∧
      (s.params.bus = .ram →
        busRead a s = (s.peek a, { s with bus := s.bus ++ [.read a (s.peek a)] }) ∧
        (∀ b, (busWrite a v s).peek b = if b = a then s.stored a v else s.peek b) ∧
        busWrite a v s =
          { s with mem := (busWrite a v s).mem, ifReg := ifReg', ieReg := ieReg', bus := s.bus ++ [.write a v] }) ∧
      ∀ n : Nat, s.params.bus = .platform n →
        let env : BusEnv := ⟨s.mem, s.device, s.ifReg, s.ieReg⟩
        let r := Config.platformRead n env a
        let w := Config.platformWrite n env a v
        let answer := if a = s.params.ifAddr then s.ifReg &&& 0x1F#8 else if a = s.params.ieAddr then s.ieReg &&& 0x1F#8 else r.1
        busRead a s = (answer, { s with mem := s.mem.apply r.2.bytes, device := r.2.device, bus := s.bus ++ [.read a answer] }) ∧
        busWrite a v s = { s with
          mem := s.mem.apply w.bytes
          device := w.device
          ifReg := ifReg'
          ieReg := ieReg'
          bus := s.bus ++ [.write a v] }
end

