-- ==== Sys2Proof/Laws/Flags.lean ====
section
/-! SUPPORT. The flag register: each bit of a packed F, F's low nibble, and the halves of a word. -/

namespace Sys2Proof.Machine

@[simp] theorem pack_bit7 (fl : Flags) : fl.pack.getLsbD 7 = fl.z := by
  obtain ⟨z, n, h, c⟩ := fl; cases z <;> cases n <;> cases h <;> cases c <;> rfl

@[simp] theorem pack_bit6 (fl : Flags) : fl.pack.getLsbD 6 = fl.n := by
  obtain ⟨z, n, h, c⟩ := fl; cases z <;> cases n <;> cases h <;> cases c <;> rfl

@[simp] theorem pack_bit5 (fl : Flags) : fl.pack.getLsbD 5 = fl.h := by
  obtain ⟨z, n, h, c⟩ := fl; cases z <;> cases n <;> cases h <;> cases c <;> rfl

@[simp] theorem pack_bit4 (fl : Flags) : fl.pack.getLsbD 4 = fl.c := by
  obtain ⟨z, n, h, c⟩ := fl; cases z <;> cases n <;> cases h <;> cases c <;> rfl

@[simp] theorem pack_getElem7 (fl : Flags) : fl.pack[7] = fl.z := pack_bit7 fl

@[simp] theorem pack_getElem6 (fl : Flags) : fl.pack[6] = fl.n := pack_bit6 fl

@[simp] theorem pack_getElem5 (fl : Flags) : fl.pack[5] = fl.h := pack_bit5 fl

@[simp] theorem pack_getElem4 (fl : Flags) : fl.pack[4] = fl.c := pack_bit4 fl

@[simp] theorem pack_low (fl : Flags) : fl.pack &&& 0x0F#8 = 0#8 := by
  obtain ⟨z, n, h, c⟩ := fl; cases z <;> cases n <;> cases h <;> cases c <;> rfl

@[simp] theorem flagZ_setFlags (s : State) (fl : Flags) : (s.setFlags fl).flagZ = fl.z := pack_bit7 fl

@[simp] theorem flagN_setFlags (s : State) (fl : Flags) : (s.setFlags fl).flagN = fl.n := pack_bit6 fl

@[simp] theorem flagH_setFlags (s : State) (fl : Flags) : (s.setFlags fl).flagH = fl.h := pack_bit5 fl

@[simp] theorem flagC_setFlags (s : State) (fl : Flags) : (s.setFlags fl).flagC = fl.c := pack_bit4 fl

/-- A byte whose bits 3..0 are 0 is the pack of its four flags (R24). -/
theorem pack_flags (s : State) (h : s.f &&& 0x0F#8 = 0#8) : s.flags.pack = s.f := by
  have all : ∀ f : Byte, f &&& 0x0F#8 = 0#8 →
      Flags.pack ⟨f.getLsbD 7, f.getLsbD 6, f.getLsbD 5, f.getLsbD 4⟩ = f := by decide
  exact all s.f h

@[simp] theorem and_f0_low (v : Byte) : v &&& 0xF0#8 &&& 0x0F#8 = 0#8 := by
  rw [BitVec.and_assoc]; simp

@[simp] theorem joinBytes_hi_lo (v : Word) : joinBytes (hiByte v) (loByte v) = v := by
  apply BitVec.eq_of_getLsbD_eq
  intro i hi
  simp only [joinBytes, hiByte, loByte, BitVec.getLsbD_append, BitVec.getLsbD_extractLsb']
  by_cases h : i < 8
  · simp [h]
  · have h2 : i - 8 < 8 := by omega
    simp [h, h2]; congr 1; omega

@[simp] theorem hiByte_joinBytes (x y : Byte) : hiByte (joinBytes x y) = x := by
  apply BitVec.eq_of_getLsbD_eq
  intro i hi
  have h := BitVec.getLsbD_append (x := x) (y := y) (i := 8 + i)
  simp only [hiByte, joinBytes, BitVec.getLsbD_extractLsb', hi, decide_true, Bool.true_and]
  rw [h, if_neg (by omega), Nat.add_sub_cancel_left]

@[simp] theorem loByte_joinBytes (x y : Byte) : loByte (joinBytes x y) = y := by
  apply BitVec.eq_of_getLsbD_eq
  intro i hi
  have h := BitVec.getLsbD_append (x := x) (y := y) (i := i)
  simp only [loByte, joinBytes, BitVec.getLsbD_extractLsb', hi, decide_true, Bool.true_and, Nat.zero_add]
  rw [h, if_pos hi]

/-- A bit as a byte: bit 0 is the bit, the others are 0. -/
@[simp] theorem bitByte_getElem (b : Bool) (k : Nat) (hk : k < 8) :
    (BitVec.ofNat 8 b.toNat)[k] = (decide (k = 0) && b) := by
  cases b
  · simp
  · rw [← BitVec.getLsbD_eq_getElem, BitVec.getLsbD_ofNat]
    cases k <;> simp [hk, Nat.testBit_succ]

/-- Each bit of the result of a rotate or shift (R175 to R182). -/
theorem rotate8_bits (op : RotOp) (v : Byte) (c : Bool) (k : Nat) (hk : k < 8) :
    (rotate8 op v c).1.getLsbD k = match op with
      | .rlc => if k = 0 then v.getLsbD 7 else v.getLsbD (k - 1)
      | .rrc => if k = 7 then v.getLsbD 0 else v.getLsbD (k + 1)
      | .rl => if k = 0 then c else v.getLsbD (k - 1)
      | .rr => if k = 7 then c else v.getLsbD (k + 1)
      | .sla => if k = 0 then false else v.getLsbD (k - 1)
      | .sra => if k = 7 then v.getLsbD 7 else v.getLsbD (k + 1)
      | .swap => if k < 4 then v.getLsbD (k + 4) else v.getLsbD (k - 4)
      | .srl => if k = 7 then false else v.getLsbD (k + 1) := by
  rcases k with _ | _ | _ | _ | _ | _ | _ | _ | k
  all_goals first | omega | cases op <;> simp [rotate8]

/-- The mask of bit u (R183 to R185). -/
theorem bitMask_getLsbD (u : Fin 8) (k : Nat) (hk : k < 8) : (0x01#8 <<< u.val).getLsbD k = decide (k = u.val) := by
  have all : ∀ u : Fin 8, ∀ k < 8, (0x01#8 <<< u.val).getLsbD k = decide (k = u.val) := by decide
  exact all u k hk

/-- A byte and the mask of bit u are disjoint exactly when the bit is 0 (R183). -/
theorem and_bitMask (u : Fin 8) (v : Byte) : v &&& (0x01#8 <<< u.val) = 0#8 ↔ v.getLsbD u.val = false := by
  constructor
  · intro h
    have := congrArg (fun x => BitVec.getLsbD x u.val) h
    rw [BitVec.getLsbD_and, bitMask_getLsbD u _ u.isLt] at this
    simpa using this
  · intro h
    apply BitVec.eq_of_getLsbD_eq
    intro i hi
    rw [BitVec.getLsbD_and, bitMask_getLsbD u i hi]
    by_cases e : i = u.val
    · rw [e, h]; simp
    · simp [e]

end Sys2Proof.Machine
end

