-- ==== Sys2Proof/Laws/Memory.lean ====
section
/-! SUPPORT. The laws of memory: read after write, and that every write keeps the canonical form, in which equal contents are
equal lists. -/

namespace Sys2Proof.Machine

@[simp] theorem memory_read_nil (a : Nat) : Memory.read [] a = Memory.unlisted := rfl

theorem memory_read_write_same (m : Memory) (a : Nat) (v : Byte) (lo : Nat) (h : Memory.wfFrom lo m = true) :
    (m.write a v).read a = v := by
  induction m generalizing lo with
  | nil => by_cases hv : v = Memory.unlisted <;> simp [Memory.write, Memory.read, hv]
  | cons x m ih =>
    obtain ⟨k, w⟩ := x
    simp only [Memory.wfFrom, Bool.and_eq_true, decide_eq_true_eq] at h
    obtain ⟨-, hm⟩ := h
    have skip : ∀ (m : Memory) (lo : Nat), Memory.wfFrom lo m = true → a < lo → m.read a = Memory.unlisted := by
      intro m
      induction m with
      | nil => intros; rfl
      | cons y m ihm =>
        obtain ⟨j, u⟩ := y
        intro lo hw hl
        simp only [Memory.wfFrom, Bool.and_eq_true, decide_eq_true_eq] at hw
        simp only [Memory.read]
        rw [if_neg (by omega)]
        exact ihm (j + 1) hw.2 (by omega)
    simp only [Memory.write]
    split_ifs with h1 h2 h3 h4
    · simp only [Memory.read]
      rw [if_neg (by omega), h2]
      exact skip m (k + 1) hm (by omega)
    · simp [Memory.read]
    · subst h3; rw [h4]
      exact skip m (a + 1) hm (by omega)
    · simp [Memory.read]
    · simp only [Memory.read]
      rw [if_neg (by omega)]
      exact ih (k + 1) hm

theorem memory_read_write_other (m : Memory) (a b : Nat) (v : Byte) (hab : b ≠ a) :
    (m.write a v).read b = m.read b := by
  induction m with
  | nil =>
    by_cases hv : v = Memory.unlisted
    · simp [Memory.write, hv]
    · simp [Memory.write, hv, Memory.read, Ne.symm hab]
  | cons x m ih =>
    obtain ⟨k, w⟩ := x
    simp only [Memory.write]
    split_ifs with h1 h2 h3 h4
    · rfl
    · simp only [Memory.read]; rw [if_neg (Ne.symm hab)]
    · subst h3; simp only [Memory.read]; rw [if_neg (Ne.symm hab)]
    · subst h3; simp only [Memory.read]; rw [if_neg (Ne.symm hab), if_neg (Ne.symm hab)]
    · simp only [Memory.read]; split_ifs
      · rfl
      · exact ih

theorem memory_wfFrom_write (m : Memory) (lo a : Nat) (v : Byte) (h : Memory.wfFrom lo m = true) (hlo : lo ≤ a)
    (ha : a < 65536) : Memory.wfFrom lo (m.write a v) = true := by
  induction m generalizing lo with
  | nil => by_cases hv : v = Memory.unlisted <;> simp [Memory.write, Memory.wfFrom, hv, hlo, ha]
  | cons x m ih =>
    obtain ⟨k, w⟩ := x
    simp only [Memory.wfFrom, Bool.and_eq_true, decide_eq_true_eq] at h
    obtain ⟨⟨⟨hk, hk2⟩, hw⟩, hm⟩ := h
    have weaken : ∀ (m : Memory) (i j : Nat), Memory.wfFrom i m = true → j ≤ i → Memory.wfFrom j m = true := by
      intro m i j hw' hji
      cases m with
      | nil => rfl
      | cons y m =>
        simp only [Memory.wfFrom, Bool.and_eq_true, decide_eq_true_eq] at hw' ⊢
        exact ⟨⟨⟨by omega, hw'.1.1.2⟩, hw'.1.2⟩, hw'.2⟩
    simp only [Memory.write]
    split_ifs with h1 h2 h3 h4
    · simp only [Memory.wfFrom, Bool.and_eq_true, decide_eq_true_eq]
      exact ⟨⟨⟨hk, hk2⟩, hw⟩, hm⟩
    · simp only [Memory.wfFrom, Bool.and_eq_true, decide_eq_true_eq]
      exact ⟨⟨⟨hlo, ha⟩, h2⟩, ⟨⟨by omega, hk2⟩, hw⟩, hm⟩
    · exact weaken m (k + 1) lo hm (by omega)
    · subst h3
      simp only [Memory.wfFrom, Bool.and_eq_true, decide_eq_true_eq]
      exact ⟨⟨⟨hlo, ha⟩, h4⟩, hm⟩
    · simp only [Memory.wfFrom, Bool.and_eq_true, decide_eq_true_eq]
      exact ⟨⟨⟨hk, hk2⟩, hw⟩, ih (k + 1) hm (by omega)⟩

theorem memory_wf_write (m : Memory) (a : Nat) (v : Byte) (h : m.wf = true) (ha : a < 65536) : (m.write a v).wf = true :=
  memory_wfFrom_write m 0 a v h (Nat.zero_le a) ha

/-- Changing bytes keeps the canonical form. -/
theorem memory_wf_apply (m : Memory) (bytes : List (Word × Byte)) (h : m.wf = true) : (m.apply bytes).wf = true := by
  induction bytes generalizing m with
  | nil => exact h
  | cons x bytes ih => exact ih _ (memory_wf_write m _ _ h (by simpa using x.1.isLt))

theorem memory_wf_reset : State.reset.mem.wf = true := rfl

end Sys2Proof.Machine
end

