-- ==== Sys2Proof/Laws/State.lean ====
section
/-! SUPPORT. One lemma per field of State and update of it: what the update leaves, and what it writes where that is one expression.
Then the lemmas of the record updates themselves are Lean's own. -/

namespace Sys2Proof.Machine

/-! ### setReg -/

@[simp] theorem setReg_f (s : State) (r : Reg) (v : Byte) : (s.setReg r v).f = s.f := by
  cases r <;> rfl
@[simp] theorem setReg_sp (s : State) (r : Reg) (v : Byte) : (s.setReg r v).sp = s.sp := by
  cases r <;> rfl
@[simp] theorem setReg_pc (s : State) (r : Reg) (v : Byte) : (s.setReg r v).pc = s.pc := by
  cases r <;> rfl
@[simp] theorem setReg_halted (s : State) (r : Reg) (v : Byte) : (s.setReg r v).halted = s.halted := by
  cases r <;> rfl
@[simp] theorem setReg_ime (s : State) (r : Reg) (v : Byte) : (s.setReg r v).ime = s.ime := by
  cases r <;> rfl
@[simp] theorem setReg_imePending (s : State) (r : Reg) (v : Byte) : (s.setReg r v).imePending = s.imePending := by
  cases r <;> rfl
@[simp] theorem setReg_haltBug (s : State) (r : Reg) (v : Byte) : (s.setReg r v).haltBug = s.haltBug := by
  cases r <;> rfl
@[simp] theorem setReg_fault (s : State) (r : Reg) (v : Byte) : (s.setReg r v).fault = s.fault := by
  cases r <;> rfl
@[simp] theorem setReg_ifReg (s : State) (r : Reg) (v : Byte) : (s.setReg r v).ifReg = s.ifReg := by
  cases r <;> rfl
@[simp] theorem setReg_ieReg (s : State) (r : Reg) (v : Byte) : (s.setReg r v).ieReg = s.ieReg := by
  cases r <;> rfl
@[simp] theorem setReg_mem (s : State) (r : Reg) (v : Byte) : (s.setReg r v).mem = s.mem := by
  cases r <;> rfl
@[simp] theorem setReg_device (s : State) (r : Reg) (v : Byte) : (s.setReg r v).device = s.device := by
  cases r <;> rfl
@[simp] theorem setReg_params (s : State) (r : Reg) (v : Byte) : (s.setReg r v).params = s.params := by
  cases r <;> rfl
@[simp] theorem setReg_schedule (s : State) (r : Reg) (v : Byte) : (s.setReg r v).schedule = s.schedule := by
  cases r <;> rfl
@[simp] theorem setReg_cycles (s : State) (r : Reg) (v : Byte) : (s.setReg r v).cycles = s.cycles := by
  cases r <;> rfl
@[simp] theorem setReg_bus (s : State) (r : Reg) (v : Byte) : (s.setReg r v).bus = s.bus := by
  cases r <;> rfl

/-! ### setBc -/

@[simp] theorem setBc_a (s : State) (v : Word) : (s.setBc v).a = s.a := rfl
@[simp] theorem setBc_f (s : State) (v : Word) : (s.setBc v).f = s.f := rfl
@[simp] theorem setBc_b (s : State) (v : Word) : (s.setBc v).b = hiByte v := rfl
@[simp] theorem setBc_c (s : State) (v : Word) : (s.setBc v).c = loByte v := rfl
@[simp] theorem setBc_d (s : State) (v : Word) : (s.setBc v).d = s.d := rfl
@[simp] theorem setBc_e (s : State) (v : Word) : (s.setBc v).e = s.e := rfl
@[simp] theorem setBc_h (s : State) (v : Word) : (s.setBc v).h = s.h := rfl
@[simp] theorem setBc_l (s : State) (v : Word) : (s.setBc v).l = s.l := rfl
@[simp] theorem setBc_sp (s : State) (v : Word) : (s.setBc v).sp = s.sp := rfl
@[simp] theorem setBc_pc (s : State) (v : Word) : (s.setBc v).pc = s.pc := rfl
@[simp] theorem setBc_halted (s : State) (v : Word) : (s.setBc v).halted = s.halted := rfl
@[simp] theorem setBc_ime (s : State) (v : Word) : (s.setBc v).ime = s.ime := rfl
@[simp] theorem setBc_imePending (s : State) (v : Word) : (s.setBc v).imePending = s.imePending := rfl
@[simp] theorem setBc_haltBug (s : State) (v : Word) : (s.setBc v).haltBug = s.haltBug := rfl
@[simp] theorem setBc_fault (s : State) (v : Word) : (s.setBc v).fault = s.fault := rfl
@[simp] theorem setBc_ifReg (s : State) (v : Word) : (s.setBc v).ifReg = s.ifReg := rfl
@[simp] theorem setBc_ieReg (s : State) (v : Word) : (s.setBc v).ieReg = s.ieReg := rfl
@[simp] theorem setBc_mem (s : State) (v : Word) : (s.setBc v).mem = s.mem := rfl
@[simp] theorem setBc_device (s : State) (v : Word) : (s.setBc v).device = s.device := rfl
@[simp] theorem setBc_params (s : State) (v : Word) : (s.setBc v).params = s.params := rfl
@[simp] theorem setBc_schedule (s : State) (v : Word) : (s.setBc v).schedule = s.schedule := rfl
@[simp] theorem setBc_cycles (s : State) (v : Word) : (s.setBc v).cycles = s.cycles := rfl
@[simp] theorem setBc_bus (s : State) (v : Word) : (s.setBc v).bus = s.bus := rfl

/-! ### setDe -/

@[simp] theorem setDe_a (s : State) (v : Word) : (s.setDe v).a = s.a := rfl
@[simp] theorem setDe_f (s : State) (v : Word) : (s.setDe v).f = s.f := rfl
@[simp] theorem setDe_b (s : State) (v : Word) : (s.setDe v).b = s.b := rfl
@[simp] theorem setDe_c (s : State) (v : Word) : (s.setDe v).c = s.c := rfl
@[simp] theorem setDe_d (s : State) (v : Word) : (s.setDe v).d = hiByte v := rfl
@[simp] theorem setDe_e (s : State) (v : Word) : (s.setDe v).e = loByte v := rfl
@[simp] theorem setDe_h (s : State) (v : Word) : (s.setDe v).h = s.h := rfl
@[simp] theorem setDe_l (s : State) (v : Word) : (s.setDe v).l = s.l := rfl
@[simp] theorem setDe_sp (s : State) (v : Word) : (s.setDe v).sp = s.sp := rfl
@[simp] theorem setDe_pc (s : State) (v : Word) : (s.setDe v).pc = s.pc := rfl
@[simp] theorem setDe_halted (s : State) (v : Word) : (s.setDe v).halted = s.halted := rfl
@[simp] theorem setDe_ime (s : State) (v : Word) : (s.setDe v).ime = s.ime := rfl
@[simp] theorem setDe_imePending (s : State) (v : Word) : (s.setDe v).imePending = s.imePending := rfl
@[simp] theorem setDe_haltBug (s : State) (v : Word) : (s.setDe v).haltBug = s.haltBug := rfl
@[simp] theorem setDe_fault (s : State) (v : Word) : (s.setDe v).fault = s.fault := rfl
@[simp] theorem setDe_ifReg (s : State) (v : Word) : (s.setDe v).ifReg = s.ifReg := rfl
@[simp] theorem setDe_ieReg (s : State) (v : Word) : (s.setDe v).ieReg = s.ieReg := rfl
@[simp] theorem setDe_mem (s : State) (v : Word) : (s.setDe v).mem = s.mem := rfl
@[simp] theorem setDe_device (s : State) (v : Word) : (s.setDe v).device = s.device := rfl
@[simp] theorem setDe_params (s : State) (v : Word) : (s.setDe v).params = s.params := rfl
@[simp] theorem setDe_schedule (s : State) (v : Word) : (s.setDe v).schedule = s.schedule := rfl
@[simp] theorem setDe_cycles (s : State) (v : Word) : (s.setDe v).cycles = s.cycles := rfl
@[simp] theorem setDe_bus (s : State) (v : Word) : (s.setDe v).bus = s.bus := rfl

/-! ### setHl -/

@[simp] theorem setHl_a (s : State) (v : Word) : (s.setHl v).a = s.a := rfl
@[simp] theorem setHl_f (s : State) (v : Word) : (s.setHl v).f = s.f := rfl
@[simp] theorem setHl_b (s : State) (v : Word) : (s.setHl v).b = s.b := rfl
@[simp] theorem setHl_c (s : State) (v : Word) : (s.setHl v).c = s.c := rfl
@[simp] theorem setHl_d (s : State) (v : Word) : (s.setHl v).d = s.d := rfl
@[simp] theorem setHl_e (s : State) (v : Word) : (s.setHl v).e = s.e := rfl
@[simp] theorem setHl_h (s : State) (v : Word) : (s.setHl v).h = hiByte v := rfl
@[simp] theorem setHl_l (s : State) (v : Word) : (s.setHl v).l = loByte v := rfl
@[simp] theorem setHl_sp (s : State) (v : Word) : (s.setHl v).sp = s.sp := rfl
@[simp] theorem setHl_pc (s : State) (v : Word) : (s.setHl v).pc = s.pc := rfl
@[simp] theorem setHl_halted (s : State) (v : Word) : (s.setHl v).halted = s.halted := rfl
@[simp] theorem setHl_ime (s : State) (v : Word) : (s.setHl v).ime = s.ime := rfl
@[simp] theorem setHl_imePending (s : State) (v : Word) : (s.setHl v).imePending = s.imePending := rfl
@[simp] theorem setHl_haltBug (s : State) (v : Word) : (s.setHl v).haltBug = s.haltBug := rfl
@[simp] theorem setHl_fault (s : State) (v : Word) : (s.setHl v).fault = s.fault := rfl
@[simp] theorem setHl_ifReg (s : State) (v : Word) : (s.setHl v).ifReg = s.ifReg := rfl
@[simp] theorem setHl_ieReg (s : State) (v : Word) : (s.setHl v).ieReg = s.ieReg := rfl
@[simp] theorem setHl_mem (s : State) (v : Word) : (s.setHl v).mem = s.mem := rfl
@[simp] theorem setHl_device (s : State) (v : Word) : (s.setHl v).device = s.device := rfl
@[simp] theorem setHl_params (s : State) (v : Word) : (s.setHl v).params = s.params := rfl
@[simp] theorem setHl_schedule (s : State) (v : Word) : (s.setHl v).schedule = s.schedule := rfl
@[simp] theorem setHl_cycles (s : State) (v : Word) : (s.setHl v).cycles = s.cycles := rfl
@[simp] theorem setHl_bus (s : State) (v : Word) : (s.setHl v).bus = s.bus := rfl

/-! ### setAf -/

@[simp] theorem setAf_a (s : State) (v : Word) : (s.setAf v).a = hiByte v := rfl
@[simp] theorem setAf_f (s : State) (v : Word) : (s.setAf v).f = loByte v &&& 0xF0#8 := rfl
@[simp] theorem setAf_b (s : State) (v : Word) : (s.setAf v).b = s.b := rfl
@[simp] theorem setAf_c (s : State) (v : Word) : (s.setAf v).c = s.c := rfl
@[simp] theorem setAf_d (s : State) (v : Word) : (s.setAf v).d = s.d := rfl
@[simp] theorem setAf_e (s : State) (v : Word) : (s.setAf v).e = s.e := rfl
@[simp] theorem setAf_h (s : State) (v : Word) : (s.setAf v).h = s.h := rfl
@[simp] theorem setAf_l (s : State) (v : Word) : (s.setAf v).l = s.l := rfl
@[simp] theorem setAf_sp (s : State) (v : Word) : (s.setAf v).sp = s.sp := rfl
@[simp] theorem setAf_pc (s : State) (v : Word) : (s.setAf v).pc = s.pc := rfl
@[simp] theorem setAf_halted (s : State) (v : Word) : (s.setAf v).halted = s.halted := rfl
@[simp] theorem setAf_ime (s : State) (v : Word) : (s.setAf v).ime = s.ime := rfl
@[simp] theorem setAf_imePending (s : State) (v : Word) : (s.setAf v).imePending = s.imePending := rfl
@[simp] theorem setAf_haltBug (s : State) (v : Word) : (s.setAf v).haltBug = s.haltBug := rfl
@[simp] theorem setAf_fault (s : State) (v : Word) : (s.setAf v).fault = s.fault := rfl
@[simp] theorem setAf_ifReg (s : State) (v : Word) : (s.setAf v).ifReg = s.ifReg := rfl
@[simp] theorem setAf_ieReg (s : State) (v : Word) : (s.setAf v).ieReg = s.ieReg := rfl
@[simp] theorem setAf_mem (s : State) (v : Word) : (s.setAf v).mem = s.mem := rfl
@[simp] theorem setAf_device (s : State) (v : Word) : (s.setAf v).device = s.device := rfl
@[simp] theorem setAf_params (s : State) (v : Word) : (s.setAf v).params = s.params := rfl
@[simp] theorem setAf_schedule (s : State) (v : Word) : (s.setAf v).schedule = s.schedule := rfl
@[simp] theorem setAf_cycles (s : State) (v : Word) : (s.setAf v).cycles = s.cycles := rfl
@[simp] theorem setAf_bus (s : State) (v : Word) : (s.setAf v).bus = s.bus := rfl

/-! ### setR16 -/

@[simp] theorem setR16_a (s : State) (rr : R16) (v : Word) : (s.setR16 rr v).a = s.a := by
  cases rr <;> rfl
@[simp] theorem setR16_f (s : State) (rr : R16) (v : Word) : (s.setR16 rr v).f = s.f := by
  cases rr <;> rfl
@[simp] theorem setR16_pc (s : State) (rr : R16) (v : Word) : (s.setR16 rr v).pc = s.pc := by
  cases rr <;> rfl
@[simp] theorem setR16_halted (s : State) (rr : R16) (v : Word) : (s.setR16 rr v).halted = s.halted := by
  cases rr <;> rfl
@[simp] theorem setR16_ime (s : State) (rr : R16) (v : Word) : (s.setR16 rr v).ime = s.ime := by
  cases rr <;> rfl
@[simp] theorem setR16_imePending (s : State) (rr : R16) (v : Word) : (s.setR16 rr v).imePending = s.imePending := by
  cases rr <;> rfl
@[simp] theorem setR16_haltBug (s : State) (rr : R16) (v : Word) : (s.setR16 rr v).haltBug = s.haltBug := by
  cases rr <;> rfl
@[simp] theorem setR16_fault (s : State) (rr : R16) (v : Word) : (s.setR16 rr v).fault = s.fault := by
  cases rr <;> rfl
@[simp] theorem setR16_ifReg (s : State) (rr : R16) (v : Word) : (s.setR16 rr v).ifReg = s.ifReg := by
  cases rr <;> rfl
@[simp] theorem setR16_ieReg (s : State) (rr : R16) (v : Word) : (s.setR16 rr v).ieReg = s.ieReg := by
  cases rr <;> rfl
@[simp] theorem setR16_mem (s : State) (rr : R16) (v : Word) : (s.setR16 rr v).mem = s.mem := by
  cases rr <;> rfl
@[simp] theorem setR16_device (s : State) (rr : R16) (v : Word) : (s.setR16 rr v).device = s.device := by
  cases rr <;> rfl
@[simp] theorem setR16_params (s : State) (rr : R16) (v : Word) : (s.setR16 rr v).params = s.params := by
  cases rr <;> rfl
@[simp] theorem setR16_schedule (s : State) (rr : R16) (v : Word) : (s.setR16 rr v).schedule = s.schedule := by
  cases rr <;> rfl
@[simp] theorem setR16_cycles (s : State) (rr : R16) (v : Word) : (s.setR16 rr v).cycles = s.cycles := by
  cases rr <;> rfl
@[simp] theorem setR16_bus (s : State) (rr : R16) (v : Word) : (s.setR16 rr v).bus = s.bus := by
  cases rr <;> rfl

/-! ### setR16stk -/

@[simp] theorem setR16stk_sp (s : State) (rr : R16stk) (v : Word) : (s.setR16stk rr v).sp = s.sp := by
  cases rr <;> rfl
@[simp] theorem setR16stk_pc (s : State) (rr : R16stk) (v : Word) : (s.setR16stk rr v).pc = s.pc := by
  cases rr <;> rfl
@[simp] theorem setR16stk_halted (s : State) (rr : R16stk) (v : Word) : (s.setR16stk rr v).halted = s.halted := by
  cases rr <;> rfl
@[simp] theorem setR16stk_ime (s : State) (rr : R16stk) (v : Word) : (s.setR16stk rr v).ime = s.ime := by
  cases rr <;> rfl
@[simp] theorem setR16stk_imePending (s : State) (rr : R16stk) (v : Word) : (s.setR16stk rr v).imePending = s.imePending := by
  cases rr <;> rfl
@[simp] theorem setR16stk_haltBug (s : State) (rr : R16stk) (v : Word) : (s.setR16stk rr v).haltBug = s.haltBug := by
  cases rr <;> rfl
@[simp] theorem setR16stk_fault (s : State) (rr : R16stk) (v : Word) : (s.setR16stk rr v).fault = s.fault := by
  cases rr <;> rfl
@[simp] theorem setR16stk_ifReg (s : State) (rr : R16stk) (v : Word) : (s.setR16stk rr v).ifReg = s.ifReg := by
  cases rr <;> rfl
@[simp] theorem setR16stk_ieReg (s : State) (rr : R16stk) (v : Word) : (s.setR16stk rr v).ieReg = s.ieReg := by
  cases rr <;> rfl
@[simp] theorem setR16stk_mem (s : State) (rr : R16stk) (v : Word) : (s.setR16stk rr v).mem = s.mem := by
  cases rr <;> rfl
@[simp] theorem setR16stk_device (s : State) (rr : R16stk) (v : Word) : (s.setR16stk rr v).device = s.device := by
  cases rr <;> rfl
@[simp] theorem setR16stk_params (s : State) (rr : R16stk) (v : Word) : (s.setR16stk rr v).params = s.params := by
  cases rr <;> rfl
@[simp] theorem setR16stk_schedule (s : State) (rr : R16stk) (v : Word) : (s.setR16stk rr v).schedule = s.schedule := by
  cases rr <;> rfl
@[simp] theorem setR16stk_cycles (s : State) (rr : R16stk) (v : Word) : (s.setR16stk rr v).cycles = s.cycles := by
  cases rr <;> rfl
@[simp] theorem setR16stk_bus (s : State) (rr : R16stk) (v : Word) : (s.setR16stk rr v).bus = s.bus := by
  cases rr <;> rfl

/-! ### bumpPtr -/

@[simp] theorem bumpPtr_a (s : State) (m : R16mem) : (s.bumpPtr m).a = s.a := by
  cases m <;> rfl
@[simp] theorem bumpPtr_f (s : State) (m : R16mem) : (s.bumpPtr m).f = s.f := by
  cases m <;> rfl
@[simp] theorem bumpPtr_b (s : State) (m : R16mem) : (s.bumpPtr m).b = s.b := by
  cases m <;> rfl
@[simp] theorem bumpPtr_c (s : State) (m : R16mem) : (s.bumpPtr m).c = s.c := by
  cases m <;> rfl
@[simp] theorem bumpPtr_d (s : State) (m : R16mem) : (s.bumpPtr m).d = s.d := by
  cases m <;> rfl
@[simp] theorem bumpPtr_e (s : State) (m : R16mem) : (s.bumpPtr m).e = s.e := by
  cases m <;> rfl
@[simp] theorem bumpPtr_sp (s : State) (m : R16mem) : (s.bumpPtr m).sp = s.sp := by
  cases m <;> rfl
@[simp] theorem bumpPtr_pc (s : State) (m : R16mem) : (s.bumpPtr m).pc = s.pc := by
  cases m <;> rfl
@[simp] theorem bumpPtr_halted (s : State) (m : R16mem) : (s.bumpPtr m).halted = s.halted := by
  cases m <;> rfl
@[simp] theorem bumpPtr_ime (s : State) (m : R16mem) : (s.bumpPtr m).ime = s.ime := by
  cases m <;> rfl
@[simp] theorem bumpPtr_imePending (s : State) (m : R16mem) : (s.bumpPtr m).imePending = s.imePending := by
  cases m <;> rfl
@[simp] theorem bumpPtr_haltBug (s : State) (m : R16mem) : (s.bumpPtr m).haltBug = s.haltBug := by
  cases m <;> rfl
@[simp] theorem bumpPtr_fault (s : State) (m : R16mem) : (s.bumpPtr m).fault = s.fault := by
  cases m <;> rfl
@[simp] theorem bumpPtr_ifReg (s : State) (m : R16mem) : (s.bumpPtr m).ifReg = s.ifReg := by
  cases m <;> rfl
@[simp] theorem bumpPtr_ieReg (s : State) (m : R16mem) : (s.bumpPtr m).ieReg = s.ieReg := by
  cases m <;> rfl
@[simp] theorem bumpPtr_mem (s : State) (m : R16mem) : (s.bumpPtr m).mem = s.mem := by
  cases m <;> rfl
@[simp] theorem bumpPtr_device (s : State) (m : R16mem) : (s.bumpPtr m).device = s.device := by
  cases m <;> rfl
@[simp] theorem bumpPtr_params (s : State) (m : R16mem) : (s.bumpPtr m).params = s.params := by
  cases m <;> rfl
@[simp] theorem bumpPtr_schedule (s : State) (m : R16mem) : (s.bumpPtr m).schedule = s.schedule := by
  cases m <;> rfl
@[simp] theorem bumpPtr_cycles (s : State) (m : R16mem) : (s.bumpPtr m).cycles = s.cycles := by
  cases m <;> rfl
@[simp] theorem bumpPtr_bus (s : State) (m : R16mem) : (s.bumpPtr m).bus = s.bus := by
  cases m <;> rfl

/-! ### setFlags -/

@[simp] theorem setFlags_a (s : State) (fl : Flags) : (s.setFlags fl).a = s.a := rfl
@[simp] theorem setFlags_f (s : State) (fl : Flags) : (s.setFlags fl).f = fl.pack := rfl
@[simp] theorem setFlags_b (s : State) (fl : Flags) : (s.setFlags fl).b = s.b := rfl
@[simp] theorem setFlags_c (s : State) (fl : Flags) : (s.setFlags fl).c = s.c := rfl
@[simp] theorem setFlags_d (s : State) (fl : Flags) : (s.setFlags fl).d = s.d := rfl
@[simp] theorem setFlags_e (s : State) (fl : Flags) : (s.setFlags fl).e = s.e := rfl
@[simp] theorem setFlags_h (s : State) (fl : Flags) : (s.setFlags fl).h = s.h := rfl
@[simp] theorem setFlags_l (s : State) (fl : Flags) : (s.setFlags fl).l = s.l := rfl
@[simp] theorem setFlags_sp (s : State) (fl : Flags) : (s.setFlags fl).sp = s.sp := rfl
@[simp] theorem setFlags_pc (s : State) (fl : Flags) : (s.setFlags fl).pc = s.pc := rfl
@[simp] theorem setFlags_halted (s : State) (fl : Flags) : (s.setFlags fl).halted = s.halted := rfl
@[simp] theorem setFlags_ime (s : State) (fl : Flags) : (s.setFlags fl).ime = s.ime := rfl
@[simp] theorem setFlags_imePending (s : State) (fl : Flags) : (s.setFlags fl).imePending = s.imePending := rfl
@[simp] theorem setFlags_haltBug (s : State) (fl : Flags) : (s.setFlags fl).haltBug = s.haltBug := rfl
@[simp] theorem setFlags_fault (s : State) (fl : Flags) : (s.setFlags fl).fault = s.fault := rfl
@[simp] theorem setFlags_ifReg (s : State) (fl : Flags) : (s.setFlags fl).ifReg = s.ifReg := rfl
@[simp] theorem setFlags_ieReg (s : State) (fl : Flags) : (s.setFlags fl).ieReg = s.ieReg := rfl
@[simp] theorem setFlags_mem (s : State) (fl : Flags) : (s.setFlags fl).mem = s.mem := rfl
@[simp] theorem setFlags_device (s : State) (fl : Flags) : (s.setFlags fl).device = s.device := rfl
@[simp] theorem setFlags_params (s : State) (fl : Flags) : (s.setFlags fl).params = s.params := rfl
@[simp] theorem setFlags_schedule (s : State) (fl : Flags) : (s.setFlags fl).schedule = s.schedule := rfl
@[simp] theorem setFlags_cycles (s : State) (fl : Flags) : (s.setFlags fl).cycles = s.cycles := rfl
@[simp] theorem setFlags_bus (s : State) (fl : Flags) : (s.setFlags fl).bus = s.bus := rfl

/-! ### finish -/

@[simp] theorem finish_a (s : State) (n : Nat) : (s.finish n).a = s.a := rfl
@[simp] theorem finish_f (s : State) (n : Nat) : (s.finish n).f = s.f := rfl
@[simp] theorem finish_b (s : State) (n : Nat) : (s.finish n).b = s.b := rfl
@[simp] theorem finish_c (s : State) (n : Nat) : (s.finish n).c = s.c := rfl
@[simp] theorem finish_d (s : State) (n : Nat) : (s.finish n).d = s.d := rfl
@[simp] theorem finish_e (s : State) (n : Nat) : (s.finish n).e = s.e := rfl
@[simp] theorem finish_h (s : State) (n : Nat) : (s.finish n).h = s.h := rfl
@[simp] theorem finish_l (s : State) (n : Nat) : (s.finish n).l = s.l := rfl
@[simp] theorem finish_sp (s : State) (n : Nat) : (s.finish n).sp = s.sp := rfl
@[simp] theorem finish_pc (s : State) (n : Nat) : (s.finish n).pc = s.pc := rfl
@[simp] theorem finish_halted (s : State) (n : Nat) : (s.finish n).halted = s.halted := rfl
@[simp] theorem finish_ime (s : State) (n : Nat) : (s.finish n).ime = s.ime := rfl
@[simp] theorem finish_imePending (s : State) (n : Nat) : (s.finish n).imePending = s.imePending := rfl
@[simp] theorem finish_haltBug (s : State) (n : Nat) : (s.finish n).haltBug = s.haltBug := rfl
@[simp] theorem finish_fault (s : State) (n : Nat) : (s.finish n).fault = s.fault := rfl
@[simp] theorem finish_ifReg (s : State) (n : Nat) : (s.finish n).ifReg = s.ifReg := rfl
@[simp] theorem finish_ieReg (s : State) (n : Nat) : (s.finish n).ieReg = s.ieReg := rfl
@[simp] theorem finish_mem (s : State) (n : Nat) : (s.finish n).mem = s.mem := rfl
@[simp] theorem finish_device (s : State) (n : Nat) : (s.finish n).device = s.device := rfl
@[simp] theorem finish_params (s : State) (n : Nat) : (s.finish n).params = s.params := rfl
@[simp] theorem finish_schedule (s : State) (n : Nat) : (s.finish n).schedule = s.schedule := rfl
@[simp] theorem finish_cycles (s : State) (n : Nat) : (s.finish n).cycles = some n := rfl
@[simp] theorem finish_bus (s : State) (n : Nat) : (s.finish n).bus = s.bus := rfl

/-! ### raise -/

@[simp] theorem raise_a (s : State) (x : Fault) : (s.raise x).a = s.a := rfl
@[simp] theorem raise_f (s : State) (x : Fault) : (s.raise x).f = s.f := rfl
@[simp] theorem raise_b (s : State) (x : Fault) : (s.raise x).b = s.b := rfl
@[simp] theorem raise_c (s : State) (x : Fault) : (s.raise x).c = s.c := rfl
@[simp] theorem raise_d (s : State) (x : Fault) : (s.raise x).d = s.d := rfl
@[simp] theorem raise_e (s : State) (x : Fault) : (s.raise x).e = s.e := rfl
@[simp] theorem raise_h (s : State) (x : Fault) : (s.raise x).h = s.h := rfl
@[simp] theorem raise_l (s : State) (x : Fault) : (s.raise x).l = s.l := rfl
@[simp] theorem raise_sp (s : State) (x : Fault) : (s.raise x).sp = s.sp := rfl
@[simp] theorem raise_pc (s : State) (x : Fault) : (s.raise x).pc = s.pc := rfl
@[simp] theorem raise_halted (s : State) (x : Fault) : (s.raise x).halted = s.halted := rfl
@[simp] theorem raise_ime (s : State) (x : Fault) : (s.raise x).ime = s.ime := rfl
@[simp] theorem raise_imePending (s : State) (x : Fault) : (s.raise x).imePending = s.imePending := rfl
@[simp] theorem raise_haltBug (s : State) (x : Fault) : (s.raise x).haltBug = s.haltBug := rfl
@[simp] theorem raise_fault (s : State) (x : Fault) : (s.raise x).fault = some x := rfl
@[simp] theorem raise_ifReg (s : State) (x : Fault) : (s.raise x).ifReg = s.ifReg := rfl
@[simp] theorem raise_ieReg (s : State) (x : Fault) : (s.raise x).ieReg = s.ieReg := rfl
@[simp] theorem raise_mem (s : State) (x : Fault) : (s.raise x).mem = s.mem := rfl
@[simp] theorem raise_device (s : State) (x : Fault) : (s.raise x).device = s.device := rfl
@[simp] theorem raise_params (s : State) (x : Fault) : (s.raise x).params = s.params := rfl
@[simp] theorem raise_schedule (s : State) (x : Fault) : (s.raise x).schedule = s.schedule := rfl
@[simp] theorem raise_cycles (s : State) (x : Fault) : (s.raise x).cycles = none := rfl
@[simp] theorem raise_bus (s : State) (x : Fault) : (s.raise x).bus = s.bus := rfl

/-! ### clearIfBit -/

@[simp] theorem clearIfBit_a (s : State) (k : Nat) : (s.clearIfBit k).a = s.a := rfl
@[simp] theorem clearIfBit_f (s : State) (k : Nat) : (s.clearIfBit k).f = s.f := rfl
@[simp] theorem clearIfBit_b (s : State) (k : Nat) : (s.clearIfBit k).b = s.b := rfl
@[simp] theorem clearIfBit_c (s : State) (k : Nat) : (s.clearIfBit k).c = s.c := rfl
@[simp] theorem clearIfBit_d (s : State) (k : Nat) : (s.clearIfBit k).d = s.d := rfl
@[simp] theorem clearIfBit_e (s : State) (k : Nat) : (s.clearIfBit k).e = s.e := rfl
@[simp] theorem clearIfBit_h (s : State) (k : Nat) : (s.clearIfBit k).h = s.h := rfl
@[simp] theorem clearIfBit_l (s : State) (k : Nat) : (s.clearIfBit k).l = s.l := rfl
@[simp] theorem clearIfBit_sp (s : State) (k : Nat) : (s.clearIfBit k).sp = s.sp := rfl
@[simp] theorem clearIfBit_pc (s : State) (k : Nat) : (s.clearIfBit k).pc = s.pc := rfl
@[simp] theorem clearIfBit_halted (s : State) (k : Nat) : (s.clearIfBit k).halted = s.halted := rfl
@[simp] theorem clearIfBit_ime (s : State) (k : Nat) : (s.clearIfBit k).ime = s.ime := rfl
@[simp] theorem clearIfBit_imePending (s : State) (k : Nat) : (s.clearIfBit k).imePending = s.imePending := rfl
@[simp] theorem clearIfBit_haltBug (s : State) (k : Nat) : (s.clearIfBit k).haltBug = s.haltBug := rfl
@[simp] theorem clearIfBit_fault (s : State) (k : Nat) : (s.clearIfBit k).fault = s.fault := rfl
@[simp] theorem clearIfBit_ieReg (s : State) (k : Nat) : (s.clearIfBit k).ieReg = s.ieReg := rfl
@[simp] theorem clearIfBit_mem (s : State) (k : Nat) : (s.clearIfBit k).mem = s.mem := rfl
@[simp] theorem clearIfBit_device (s : State) (k : Nat) : (s.clearIfBit k).device = s.device := rfl
@[simp] theorem clearIfBit_params (s : State) (k : Nat) : (s.clearIfBit k).params = s.params := rfl
@[simp] theorem clearIfBit_schedule (s : State) (k : Nat) : (s.clearIfBit k).schedule = s.schedule := rfl
@[simp] theorem clearIfBit_cycles (s : State) (k : Nat) : (s.clearIfBit k).cycles = s.cycles := rfl
@[simp] theorem clearIfBit_bus (s : State) (k : Nat) : (s.clearIfBit k).bus = s.bus := rfl

/-! ### withEnv -/

@[simp] theorem withEnv_a (s : State) (env : BusEnv) : (s.withEnv env).a = s.a := rfl
@[simp] theorem withEnv_f (s : State) (env : BusEnv) : (s.withEnv env).f = s.f := rfl
@[simp] theorem withEnv_b (s : State) (env : BusEnv) : (s.withEnv env).b = s.b := rfl
@[simp] theorem withEnv_c (s : State) (env : BusEnv) : (s.withEnv env).c = s.c := rfl
@[simp] theorem withEnv_d (s : State) (env : BusEnv) : (s.withEnv env).d = s.d := rfl
@[simp] theorem withEnv_e (s : State) (env : BusEnv) : (s.withEnv env).e = s.e := rfl
@[simp] theorem withEnv_h (s : State) (env : BusEnv) : (s.withEnv env).h = s.h := rfl
@[simp] theorem withEnv_l (s : State) (env : BusEnv) : (s.withEnv env).l = s.l := rfl
@[simp] theorem withEnv_sp (s : State) (env : BusEnv) : (s.withEnv env).sp = s.sp := rfl
@[simp] theorem withEnv_pc (s : State) (env : BusEnv) : (s.withEnv env).pc = s.pc := rfl
@[simp] theorem withEnv_halted (s : State) (env : BusEnv) : (s.withEnv env).halted = s.halted := rfl
@[simp] theorem withEnv_ime (s : State) (env : BusEnv) : (s.withEnv env).ime = s.ime := rfl
@[simp] theorem withEnv_imePending (s : State) (env : BusEnv) : (s.withEnv env).imePending = s.imePending := rfl
@[simp] theorem withEnv_haltBug (s : State) (env : BusEnv) : (s.withEnv env).haltBug = s.haltBug := rfl
@[simp] theorem withEnv_fault (s : State) (env : BusEnv) : (s.withEnv env).fault = s.fault := rfl
@[simp] theorem withEnv_ifReg (s : State) (env : BusEnv) : (s.withEnv env).ifReg = env.ifReg := rfl
@[simp] theorem withEnv_ieReg (s : State) (env : BusEnv) : (s.withEnv env).ieReg = env.ieReg := rfl
@[simp] theorem withEnv_mem (s : State) (env : BusEnv) : (s.withEnv env).mem = env.mem := rfl
@[simp] theorem withEnv_device (s : State) (env : BusEnv) : (s.withEnv env).device = env.device := rfl
@[simp] theorem withEnv_params (s : State) (env : BusEnv) : (s.withEnv env).params = s.params := rfl
@[simp] theorem withEnv_schedule (s : State) (env : BusEnv) : (s.withEnv env).schedule = s.schedule := rfl
@[simp] theorem withEnv_cycles (s : State) (env : BusEnv) : (s.withEnv env).cycles = s.cycles := rfl
@[simp] theorem withEnv_bus (s : State) (env : BusEnv) : (s.withEnv env).bus = s.bus := rfl

/-! ### afterRead -/

@[simp] theorem afterRead_a (s : State) (addr : Word) : (s.afterRead addr).a = s.a := rfl
@[simp] theorem afterRead_f (s : State) (addr : Word) : (s.afterRead addr).f = s.f := rfl
@[simp] theorem afterRead_b (s : State) (addr : Word) : (s.afterRead addr).b = s.b := rfl
@[simp] theorem afterRead_c (s : State) (addr : Word) : (s.afterRead addr).c = s.c := rfl
@[simp] theorem afterRead_d (s : State) (addr : Word) : (s.afterRead addr).d = s.d := rfl
@[simp] theorem afterRead_e (s : State) (addr : Word) : (s.afterRead addr).e = s.e := rfl
@[simp] theorem afterRead_h (s : State) (addr : Word) : (s.afterRead addr).h = s.h := rfl
@[simp] theorem afterRead_l (s : State) (addr : Word) : (s.afterRead addr).l = s.l := rfl
@[simp] theorem afterRead_sp (s : State) (addr : Word) : (s.afterRead addr).sp = s.sp := rfl
@[simp] theorem afterRead_pc (s : State) (addr : Word) : (s.afterRead addr).pc = s.pc := rfl
@[simp] theorem afterRead_halted (s : State) (addr : Word) : (s.afterRead addr).halted = s.halted := rfl
@[simp] theorem afterRead_ime (s : State) (addr : Word) : (s.afterRead addr).ime = s.ime := rfl
@[simp] theorem afterRead_imePending (s : State) (addr : Word) : (s.afterRead addr).imePending = s.imePending := rfl
@[simp] theorem afterRead_haltBug (s : State) (addr : Word) : (s.afterRead addr).haltBug = s.haltBug := rfl
@[simp] theorem afterRead_fault (s : State) (addr : Word) : (s.afterRead addr).fault = s.fault := rfl
@[simp] theorem afterRead_ifReg (s : State) (addr : Word) : (s.afterRead addr).ifReg = s.ifReg := by
  unfold State.afterRead envRead; split <;> rfl
@[simp] theorem afterRead_ieReg (s : State) (addr : Word) : (s.afterRead addr).ieReg = s.ieReg := by
  unfold State.afterRead envRead; split <;> rfl
@[simp] theorem afterRead_params (s : State) (addr : Word) : (s.afterRead addr).params = s.params := rfl
@[simp] theorem afterRead_schedule (s : State) (addr : Word) : (s.afterRead addr).schedule = s.schedule := rfl
@[simp] theorem afterRead_cycles (s : State) (addr : Word) : (s.afterRead addr).cycles = s.cycles := rfl
@[simp] theorem afterRead_bus (s : State) (addr : Word) : (s.afterRead addr).bus = s.bus := rfl

/-! ### poke -/

@[simp] theorem poke_a (s : State) (addr : Word) (v : Byte) : (s.poke addr v).a = s.a := rfl
@[simp] theorem poke_f (s : State) (addr : Word) (v : Byte) : (s.poke addr v).f = s.f := rfl
@[simp] theorem poke_b (s : State) (addr : Word) (v : Byte) : (s.poke addr v).b = s.b := rfl
@[simp] theorem poke_c (s : State) (addr : Word) (v : Byte) : (s.poke addr v).c = s.c := rfl
@[simp] theorem poke_d (s : State) (addr : Word) (v : Byte) : (s.poke addr v).d = s.d := rfl
@[simp] theorem poke_e (s : State) (addr : Word) (v : Byte) : (s.poke addr v).e = s.e := rfl
@[simp] theorem poke_h (s : State) (addr : Word) (v : Byte) : (s.poke addr v).h = s.h := rfl
@[simp] theorem poke_l (s : State) (addr : Word) (v : Byte) : (s.poke addr v).l = s.l := rfl
@[simp] theorem poke_sp (s : State) (addr : Word) (v : Byte) : (s.poke addr v).sp = s.sp := rfl
@[simp] theorem poke_pc (s : State) (addr : Word) (v : Byte) : (s.poke addr v).pc = s.pc := rfl
@[simp] theorem poke_halted (s : State) (addr : Word) (v : Byte) : (s.poke addr v).halted = s.halted := rfl
@[simp] theorem poke_ime (s : State) (addr : Word) (v : Byte) : (s.poke addr v).ime = s.ime := rfl
@[simp] theorem poke_imePending (s : State) (addr : Word) (v : Byte) : (s.poke addr v).imePending = s.imePending := rfl
@[simp] theorem poke_haltBug (s : State) (addr : Word) (v : Byte) : (s.poke addr v).haltBug = s.haltBug := rfl
@[simp] theorem poke_fault (s : State) (addr : Word) (v : Byte) : (s.poke addr v).fault = s.fault := rfl
@[simp] theorem poke_params (s : State) (addr : Word) (v : Byte) : (s.poke addr v).params = s.params := rfl
@[simp] theorem poke_schedule (s : State) (addr : Word) (v : Byte) : (s.poke addr v).schedule = s.schedule := rfl
@[simp] theorem poke_cycles (s : State) (addr : Word) (v : Byte) : (s.poke addr v).cycles = s.cycles := rfl
@[simp] theorem poke_bus (s : State) (addr : Word) (v : Byte) : (s.poke addr v).bus = s.bus := rfl

/-! ### busRead -/

@[simp] theorem busRead_a (s : State) (addr : Word) : ((busRead addr s).2).a = s.a := rfl
@[simp] theorem busRead_f (s : State) (addr : Word) : ((busRead addr s).2).f = s.f := rfl
@[simp] theorem busRead_b (s : State) (addr : Word) : ((busRead addr s).2).b = s.b := rfl
@[simp] theorem busRead_c (s : State) (addr : Word) : ((busRead addr s).2).c = s.c := rfl
@[simp] theorem busRead_d (s : State) (addr : Word) : ((busRead addr s).2).d = s.d := rfl
@[simp] theorem busRead_e (s : State) (addr : Word) : ((busRead addr s).2).e = s.e := rfl
@[simp] theorem busRead_h (s : State) (addr : Word) : ((busRead addr s).2).h = s.h := rfl
@[simp] theorem busRead_l (s : State) (addr : Word) : ((busRead addr s).2).l = s.l := rfl
@[simp] theorem busRead_sp (s : State) (addr : Word) : ((busRead addr s).2).sp = s.sp := rfl
@[simp] theorem busRead_pc (s : State) (addr : Word) : ((busRead addr s).2).pc = s.pc := rfl
@[simp] theorem busRead_halted (s : State) (addr : Word) : ((busRead addr s).2).halted = s.halted := rfl
@[simp] theorem busRead_ime (s : State) (addr : Word) : ((busRead addr s).2).ime = s.ime := rfl
@[simp] theorem busRead_imePending (s : State) (addr : Word) : ((busRead addr s).2).imePending = s.imePending := rfl
@[simp] theorem busRead_haltBug (s : State) (addr : Word) : ((busRead addr s).2).haltBug = s.haltBug := rfl
@[simp] theorem busRead_fault (s : State) (addr : Word) : ((busRead addr s).2).fault = s.fault := rfl
@[simp] theorem busRead_ifReg (s : State) (addr : Word) : ((busRead addr s).2).ifReg = s.ifReg := by
  simp [busRead]
@[simp] theorem busRead_ieReg (s : State) (addr : Word) : ((busRead addr s).2).ieReg = s.ieReg := by
  simp [busRead]
@[simp] theorem busRead_mem (s : State) (addr : Word) : ((busRead addr s).2).mem = (s.afterRead addr).mem := rfl
@[simp] theorem busRead_device (s : State) (addr : Word) : ((busRead addr s).2).device = (s.afterRead addr).device := rfl
@[simp] theorem busRead_params (s : State) (addr : Word) : ((busRead addr s).2).params = s.params := rfl
@[simp] theorem busRead_schedule (s : State) (addr : Word) : ((busRead addr s).2).schedule = s.schedule := rfl
@[simp] theorem busRead_cycles (s : State) (addr : Word) : ((busRead addr s).2).cycles = s.cycles := rfl
@[simp] theorem busRead_bus (s : State) (addr : Word) : ((busRead addr s).2).bus = s.bus ++ [.read addr (s.peek addr)] := rfl

/-! ### busWrite -/

@[simp] theorem busWrite_a (s : State) (addr : Word) (v : Byte) : (busWrite addr v s).a = s.a := rfl
@[simp] theorem busWrite_f (s : State) (addr : Word) (v : Byte) : (busWrite addr v s).f = s.f := rfl
@[simp] theorem busWrite_b (s : State) (addr : Word) (v : Byte) : (busWrite addr v s).b = s.b := rfl
@[simp] theorem busWrite_c (s : State) (addr : Word) (v : Byte) : (busWrite addr v s).c = s.c := rfl
@[simp] theorem busWrite_d (s : State) (addr : Word) (v : Byte) : (busWrite addr v s).d = s.d := rfl
@[simp] theorem busWrite_e (s : State) (addr : Word) (v : Byte) : (busWrite addr v s).e = s.e := rfl
@[simp] theorem busWrite_h (s : State) (addr : Word) (v : Byte) : (busWrite addr v s).h = s.h := rfl
@[simp] theorem busWrite_l (s : State) (addr : Word) (v : Byte) : (busWrite addr v s).l = s.l := rfl
@[simp] theorem busWrite_sp (s : State) (addr : Word) (v : Byte) : (busWrite addr v s).sp = s.sp := rfl
@[simp] theorem busWrite_pc (s : State) (addr : Word) (v : Byte) : (busWrite addr v s).pc = s.pc := rfl
@[simp] theorem busWrite_halted (s : State) (addr : Word) (v : Byte) : (busWrite addr v s).halted = s.halted := rfl
@[simp] theorem busWrite_ime (s : State) (addr : Word) (v : Byte) : (busWrite addr v s).ime = s.ime := rfl
@[simp] theorem busWrite_imePending (s : State) (addr : Word) (v : Byte) : (busWrite addr v s).imePending = s.imePending := rfl
@[simp] theorem busWrite_haltBug (s : State) (addr : Word) (v : Byte) : (busWrite addr v s).haltBug = s.haltBug := rfl
@[simp] theorem busWrite_fault (s : State) (addr : Word) (v : Byte) : (busWrite addr v s).fault = s.fault := rfl
@[simp] theorem busWrite_ifReg (s : State) (addr : Word) (v : Byte) : (busWrite addr v s).ifReg = (s.poke addr v).ifReg := rfl
@[simp] theorem busWrite_ieReg (s : State) (addr : Word) (v : Byte) : (busWrite addr v s).ieReg = (s.poke addr v).ieReg := rfl
@[simp] theorem busWrite_mem (s : State) (addr : Word) (v : Byte) : (busWrite addr v s).mem = (s.poke addr v).mem := rfl
@[simp] theorem busWrite_device (s : State) (addr : Word) (v : Byte) : (busWrite addr v s).device = (s.poke addr v).device := rfl
@[simp] theorem busWrite_params (s : State) (addr : Word) (v : Byte) : (busWrite addr v s).params = s.params := rfl
@[simp] theorem busWrite_schedule (s : State) (addr : Word) (v : Byte) : (busWrite addr v s).schedule = s.schedule := rfl
@[simp] theorem busWrite_cycles (s : State) (addr : Word) (v : Byte) : (busWrite addr v s).cycles = s.cycles := rfl
@[simp] theorem busWrite_bus (s : State) (addr : Word) (v : Byte) : (busWrite addr v s).bus = s.bus ++ [.write addr v] := rfl

/-! ### push16 -/

@[simp] theorem push16_a (s : State) (v : Word) : (push16 v s).a = s.a := by
  simp [push16]
@[simp] theorem push16_f (s : State) (v : Word) : (push16 v s).f = s.f := by
  simp [push16]
@[simp] theorem push16_b (s : State) (v : Word) : (push16 v s).b = s.b := by
  simp [push16]
@[simp] theorem push16_c (s : State) (v : Word) : (push16 v s).c = s.c := by
  simp [push16]
@[simp] theorem push16_d (s : State) (v : Word) : (push16 v s).d = s.d := by
  simp [push16]
@[simp] theorem push16_e (s : State) (v : Word) : (push16 v s).e = s.e := by
  simp [push16]
@[simp] theorem push16_h (s : State) (v : Word) : (push16 v s).h = s.h := by
  simp [push16]
@[simp] theorem push16_l (s : State) (v : Word) : (push16 v s).l = s.l := by
  simp [push16]
@[simp] theorem push16_pc (s : State) (v : Word) : (push16 v s).pc = s.pc := by
  simp [push16]
@[simp] theorem push16_halted (s : State) (v : Word) : (push16 v s).halted = s.halted := by
  simp [push16]
@[simp] theorem push16_ime (s : State) (v : Word) : (push16 v s).ime = s.ime := by
  simp [push16]
@[simp] theorem push16_imePending (s : State) (v : Word) : (push16 v s).imePending = s.imePending := by
  simp [push16]
@[simp] theorem push16_haltBug (s : State) (v : Word) : (push16 v s).haltBug = s.haltBug := by
  simp [push16]
@[simp] theorem push16_fault (s : State) (v : Word) : (push16 v s).fault = s.fault := by
  simp [push16]
@[simp] theorem push16_params (s : State) (v : Word) : (push16 v s).params = s.params := by
  simp [push16]
@[simp] theorem push16_schedule (s : State) (v : Word) : (push16 v s).schedule = s.schedule := by
  simp [push16]
@[simp] theorem push16_cycles (s : State) (v : Word) : (push16 v s).cycles = s.cycles := by
  simp [push16]

/-! ### pop16 -/

@[simp] theorem pop16_a (s : State) : ((pop16 s).2).a = s.a := by
  simp [pop16]
@[simp] theorem pop16_f (s : State) : ((pop16 s).2).f = s.f := by
  simp [pop16]
@[simp] theorem pop16_b (s : State) : ((pop16 s).2).b = s.b := by
  simp [pop16]
@[simp] theorem pop16_c (s : State) : ((pop16 s).2).c = s.c := by
  simp [pop16]
@[simp] theorem pop16_d (s : State) : ((pop16 s).2).d = s.d := by
  simp [pop16]
@[simp] theorem pop16_e (s : State) : ((pop16 s).2).e = s.e := by
  simp [pop16]
@[simp] theorem pop16_h (s : State) : ((pop16 s).2).h = s.h := by
  simp [pop16]
@[simp] theorem pop16_l (s : State) : ((pop16 s).2).l = s.l := by
  simp [pop16]
@[simp] theorem pop16_sp (s : State) : ((pop16 s).2).sp = s.sp + 1#16 + 1#16 := by simp [pop16]
@[simp] theorem pop16_pc (s : State) : ((pop16 s).2).pc = s.pc := by
  simp [pop16]
@[simp] theorem pop16_halted (s : State) : ((pop16 s).2).halted = s.halted := by
  simp [pop16]
@[simp] theorem pop16_ime (s : State) : ((pop16 s).2).ime = s.ime := by
  simp [pop16]
@[simp] theorem pop16_imePending (s : State) : ((pop16 s).2).imePending = s.imePending := by
  simp [pop16]
@[simp] theorem pop16_haltBug (s : State) : ((pop16 s).2).haltBug = s.haltBug := by
  simp [pop16]
@[simp] theorem pop16_fault (s : State) : ((pop16 s).2).fault = s.fault := by
  simp [pop16]
@[simp] theorem pop16_ifReg (s : State) : ((pop16 s).2).ifReg = s.ifReg := by
  simp [pop16]
@[simp] theorem pop16_ieReg (s : State) : ((pop16 s).2).ieReg = s.ieReg := by
  simp [pop16]
@[simp] theorem pop16_params (s : State) : ((pop16 s).2).params = s.params := by
  simp [pop16]
@[simp] theorem pop16_schedule (s : State) : ((pop16 s).2).schedule = s.schedule := by
  simp [pop16]
@[simp] theorem pop16_cycles (s : State) : ((pop16 s).2).cycles = s.cycles := by
  simp [pop16]

/-! ### readImm8 -/

@[simp] theorem readImm8_a (s : State) : ((readImm8 s).2).a = s.a := rfl
@[simp] theorem readImm8_f (s : State) : ((readImm8 s).2).f = s.f := rfl
@[simp] theorem readImm8_b (s : State) : ((readImm8 s).2).b = s.b := rfl
@[simp] theorem readImm8_c (s : State) : ((readImm8 s).2).c = s.c := rfl
@[simp] theorem readImm8_d (s : State) : ((readImm8 s).2).d = s.d := rfl
@[simp] theorem readImm8_e (s : State) : ((readImm8 s).2).e = s.e := rfl
@[simp] theorem readImm8_h (s : State) : ((readImm8 s).2).h = s.h := rfl
@[simp] theorem readImm8_l (s : State) : ((readImm8 s).2).l = s.l := rfl
@[simp] theorem readImm8_sp (s : State) : ((readImm8 s).2).sp = s.sp := rfl
@[simp] theorem readImm8_pc (s : State) : ((readImm8 s).2).pc = s.pc + 1#16 := rfl
@[simp] theorem readImm8_halted (s : State) : ((readImm8 s).2).halted = s.halted := rfl
@[simp] theorem readImm8_ime (s : State) : ((readImm8 s).2).ime = s.ime := rfl
@[simp] theorem readImm8_imePending (s : State) : ((readImm8 s).2).imePending = s.imePending := rfl
@[simp] theorem readImm8_haltBug (s : State) : ((readImm8 s).2).haltBug = s.haltBug := rfl
@[simp] theorem readImm8_fault (s : State) : ((readImm8 s).2).fault = s.fault := rfl
@[simp] theorem readImm8_ifReg (s : State) : ((readImm8 s).2).ifReg = s.ifReg := by
  simp [readImm8]
@[simp] theorem readImm8_ieReg (s : State) : ((readImm8 s).2).ieReg = s.ieReg := by
  simp [readImm8]
@[simp] theorem readImm8_params (s : State) : ((readImm8 s).2).params = s.params := rfl
@[simp] theorem readImm8_schedule (s : State) : ((readImm8 s).2).schedule = s.schedule := rfl
@[simp] theorem readImm8_cycles (s : State) : ((readImm8 s).2).cycles = s.cycles := rfl

/-! ### readImm16 -/

@[simp] theorem readImm16_a (s : State) : ((readImm16 s).2).a = s.a := by
  simp [readImm16]
@[simp] theorem readImm16_f (s : State) : ((readImm16 s).2).f = s.f := by
  simp [readImm16]
@[simp] theorem readImm16_b (s : State) : ((readImm16 s).2).b = s.b := by
  simp [readImm16]
@[simp] theorem readImm16_c (s : State) : ((readImm16 s).2).c = s.c := by
  simp [readImm16]
@[simp] theorem readImm16_d (s : State) : ((readImm16 s).2).d = s.d := by
  simp [readImm16]
@[simp] theorem readImm16_e (s : State) : ((readImm16 s).2).e = s.e := by
  simp [readImm16]
@[simp] theorem readImm16_h (s : State) : ((readImm16 s).2).h = s.h := by
  simp [readImm16]
@[simp] theorem readImm16_l (s : State) : ((readImm16 s).2).l = s.l := by
  simp [readImm16]
@[simp] theorem readImm16_sp (s : State) : ((readImm16 s).2).sp = s.sp := by
  simp [readImm16]
@[simp] theorem readImm16_pc (s : State) : ((readImm16 s).2).pc = s.pc + 1#16 + 1#16 := by simp [readImm16]
@[simp] theorem readImm16_halted (s : State) : ((readImm16 s).2).halted = s.halted := by
  simp [readImm16]
@[simp] theorem readImm16_ime (s : State) : ((readImm16 s).2).ime = s.ime := by
  simp [readImm16]
@[simp] theorem readImm16_imePending (s : State) : ((readImm16 s).2).imePending = s.imePending := by
  simp [readImm16]
@[simp] theorem readImm16_haltBug (s : State) : ((readImm16 s).2).haltBug = s.haltBug := by
  simp [readImm16]
@[simp] theorem readImm16_fault (s : State) : ((readImm16 s).2).fault = s.fault := by
  simp [readImm16]
@[simp] theorem readImm16_ifReg (s : State) : ((readImm16 s).2).ifReg = s.ifReg := by
  simp [readImm16]
@[simp] theorem readImm16_ieReg (s : State) : ((readImm16 s).2).ieReg = s.ieReg := by
  simp [readImm16]
@[simp] theorem readImm16_params (s : State) : ((readImm16 s).2).params = s.params := by
  simp [readImm16]
@[simp] theorem readImm16_schedule (s : State) : ((readImm16 s).2).schedule = s.schedule := by
  simp [readImm16]
@[simp] theorem readImm16_cycles (s : State) : ((readImm16 s).2).cycles = s.cycles := by
  simp [readImm16]

/-! ### readR8 -/

@[simp] theorem readR8_a (s : State) (r : R8) : ((readR8 r s).2).a = s.a := by
  cases r <;> rfl
@[simp] theorem readR8_f (s : State) (r : R8) : ((readR8 r s).2).f = s.f := by
  cases r <;> rfl
@[simp] theorem readR8_b (s : State) (r : R8) : ((readR8 r s).2).b = s.b := by
  cases r <;> rfl
@[simp] theorem readR8_c (s : State) (r : R8) : ((readR8 r s).2).c = s.c := by
  cases r <;> rfl
@[simp] theorem readR8_d (s : State) (r : R8) : ((readR8 r s).2).d = s.d := by
  cases r <;> rfl
@[simp] theorem readR8_e (s : State) (r : R8) : ((readR8 r s).2).e = s.e := by
  cases r <;> rfl
@[simp] theorem readR8_h (s : State) (r : R8) : ((readR8 r s).2).h = s.h := by
  cases r <;> rfl
@[simp] theorem readR8_l (s : State) (r : R8) : ((readR8 r s).2).l = s.l := by
  cases r <;> rfl
@[simp] theorem readR8_sp (s : State) (r : R8) : ((readR8 r s).2).sp = s.sp := by
  cases r <;> rfl
@[simp] theorem readR8_pc (s : State) (r : R8) : ((readR8 r s).2).pc = s.pc := by
  cases r <;> rfl
@[simp] theorem readR8_halted (s : State) (r : R8) : ((readR8 r s).2).halted = s.halted := by
  cases r <;> rfl
@[simp] theorem readR8_ime (s : State) (r : R8) : ((readR8 r s).2).ime = s.ime := by
  cases r <;> rfl
@[simp] theorem readR8_imePending (s : State) (r : R8) : ((readR8 r s).2).imePending = s.imePending := by
  cases r <;> rfl
@[simp] theorem readR8_haltBug (s : State) (r : R8) : ((readR8 r s).2).haltBug = s.haltBug := by
  cases r <;> rfl
@[simp] theorem readR8_fault (s : State) (r : R8) : ((readR8 r s).2).fault = s.fault := by
  cases r <;> rfl
@[simp] theorem readR8_ifReg (s : State) (r : R8) : ((readR8 r s).2).ifReg = s.ifReg := by
  cases r <;> simp [readR8]
@[simp] theorem readR8_ieReg (s : State) (r : R8) : ((readR8 r s).2).ieReg = s.ieReg := by
  cases r <;> simp [readR8]
@[simp] theorem readR8_params (s : State) (r : R8) : ((readR8 r s).2).params = s.params := by
  cases r <;> rfl
@[simp] theorem readR8_schedule (s : State) (r : R8) : ((readR8 r s).2).schedule = s.schedule := by
  cases r <;> rfl
@[simp] theorem readR8_cycles (s : State) (r : R8) : ((readR8 r s).2).cycles = s.cycles := by
  cases r <;> rfl

/-! ### r8After -/

@[simp] theorem r8After_a (s : State) (r : R8) : (s.r8After r).a = s.a := by
  cases r <;> rfl
@[simp] theorem r8After_f (s : State) (r : R8) : (s.r8After r).f = s.f := by
  cases r <;> rfl
@[simp] theorem r8After_b (s : State) (r : R8) : (s.r8After r).b = s.b := by
  cases r <;> rfl
@[simp] theorem r8After_c (s : State) (r : R8) : (s.r8After r).c = s.c := by
  cases r <;> rfl
@[simp] theorem r8After_d (s : State) (r : R8) : (s.r8After r).d = s.d := by
  cases r <;> rfl
@[simp] theorem r8After_e (s : State) (r : R8) : (s.r8After r).e = s.e := by
  cases r <;> rfl
@[simp] theorem r8After_h (s : State) (r : R8) : (s.r8After r).h = s.h := by
  cases r <;> rfl
@[simp] theorem r8After_l (s : State) (r : R8) : (s.r8After r).l = s.l := by
  cases r <;> rfl
@[simp] theorem r8After_sp (s : State) (r : R8) : (s.r8After r).sp = s.sp := by
  cases r <;> rfl
@[simp] theorem r8After_pc (s : State) (r : R8) : (s.r8After r).pc = s.pc := by
  cases r <;> rfl
@[simp] theorem r8After_halted (s : State) (r : R8) : (s.r8After r).halted = s.halted := by
  cases r <;> rfl
@[simp] theorem r8After_ime (s : State) (r : R8) : (s.r8After r).ime = s.ime := by
  cases r <;> rfl
@[simp] theorem r8After_imePending (s : State) (r : R8) : (s.r8After r).imePending = s.imePending := by
  cases r <;> rfl
@[simp] theorem r8After_haltBug (s : State) (r : R8) : (s.r8After r).haltBug = s.haltBug := by
  cases r <;> rfl
@[simp] theorem r8After_fault (s : State) (r : R8) : (s.r8After r).fault = s.fault := by
  cases r <;> rfl
@[simp] theorem r8After_ifReg (s : State) (r : R8) : (s.r8After r).ifReg = s.ifReg := by
  cases r <;> simp [State.r8After]
@[simp] theorem r8After_ieReg (s : State) (r : R8) : (s.r8After r).ieReg = s.ieReg := by
  cases r <;> simp [State.r8After]
@[simp] theorem r8After_params (s : State) (r : R8) : (s.r8After r).params = s.params := by
  cases r <;> rfl
@[simp] theorem r8After_schedule (s : State) (r : R8) : (s.r8After r).schedule = s.schedule := by
  cases r <;> rfl
@[simp] theorem r8After_cycles (s : State) (r : R8) : (s.r8After r).cycles = s.cycles := by
  cases r <;> rfl

/-! ### aluAfter -/

@[simp] theorem aluAfter_a (s : State) (x : AluSrc) : (s.aluAfter x).a = s.a := by
  cases x <;> simp [State.aluAfter]
@[simp] theorem aluAfter_f (s : State) (x : AluSrc) : (s.aluAfter x).f = s.f := by
  cases x <;> simp [State.aluAfter]
@[simp] theorem aluAfter_b (s : State) (x : AluSrc) : (s.aluAfter x).b = s.b := by
  cases x <;> simp [State.aluAfter]
@[simp] theorem aluAfter_c (s : State) (x : AluSrc) : (s.aluAfter x).c = s.c := by
  cases x <;> simp [State.aluAfter]
@[simp] theorem aluAfter_d (s : State) (x : AluSrc) : (s.aluAfter x).d = s.d := by
  cases x <;> simp [State.aluAfter]
@[simp] theorem aluAfter_e (s : State) (x : AluSrc) : (s.aluAfter x).e = s.e := by
  cases x <;> simp [State.aluAfter]
@[simp] theorem aluAfter_h (s : State) (x : AluSrc) : (s.aluAfter x).h = s.h := by
  cases x <;> simp [State.aluAfter]
@[simp] theorem aluAfter_l (s : State) (x : AluSrc) : (s.aluAfter x).l = s.l := by
  cases x <;> simp [State.aluAfter]
@[simp] theorem aluAfter_sp (s : State) (x : AluSrc) : (s.aluAfter x).sp = s.sp := by
  cases x <;> simp [State.aluAfter]
@[simp] theorem aluAfter_pc (s : State) (x : AluSrc) : (s.aluAfter x).pc = s.pc := by
  cases x <;> simp [State.aluAfter]
@[simp] theorem aluAfter_halted (s : State) (x : AluSrc) : (s.aluAfter x).halted = s.halted := by
  cases x <;> simp [State.aluAfter]
@[simp] theorem aluAfter_ime (s : State) (x : AluSrc) : (s.aluAfter x).ime = s.ime := by
  cases x <;> simp [State.aluAfter]
@[simp] theorem aluAfter_imePending (s : State) (x : AluSrc) : (s.aluAfter x).imePending = s.imePending := by
  cases x <;> simp [State.aluAfter]
@[simp] theorem aluAfter_haltBug (s : State) (x : AluSrc) : (s.aluAfter x).haltBug = s.haltBug := by
  cases x <;> simp [State.aluAfter]
@[simp] theorem aluAfter_fault (s : State) (x : AluSrc) : (s.aluAfter x).fault = s.fault := by
  cases x <;> simp [State.aluAfter]
@[simp] theorem aluAfter_ifReg (s : State) (x : AluSrc) : (s.aluAfter x).ifReg = s.ifReg := by
  cases x <;> simp [State.aluAfter]
@[simp] theorem aluAfter_ieReg (s : State) (x : AluSrc) : (s.aluAfter x).ieReg = s.ieReg := by
  cases x <;> simp [State.aluAfter]
@[simp] theorem aluAfter_params (s : State) (x : AluSrc) : (s.aluAfter x).params = s.params := by
  cases x <;> simp [State.aluAfter]
@[simp] theorem aluAfter_schedule (s : State) (x : AluSrc) : (s.aluAfter x).schedule = s.schedule := by
  cases x <;> simp [State.aluAfter]
@[simp] theorem aluAfter_cycles (s : State) (x : AluSrc) : (s.aluAfter x).cycles = s.cycles := by
  cases x <;> simp [State.aluAfter]

/-! ### popAfter -/

@[simp] theorem popAfter_a (s : State) : (s.popAfter).a = s.a := by
  simp [State.popAfter]
@[simp] theorem popAfter_f (s : State) : (s.popAfter).f = s.f := by
  simp [State.popAfter]
@[simp] theorem popAfter_b (s : State) : (s.popAfter).b = s.b := by
  simp [State.popAfter]
@[simp] theorem popAfter_c (s : State) : (s.popAfter).c = s.c := by
  simp [State.popAfter]
@[simp] theorem popAfter_d (s : State) : (s.popAfter).d = s.d := by
  simp [State.popAfter]
@[simp] theorem popAfter_e (s : State) : (s.popAfter).e = s.e := by
  simp [State.popAfter]
@[simp] theorem popAfter_h (s : State) : (s.popAfter).h = s.h := by
  simp [State.popAfter]
@[simp] theorem popAfter_l (s : State) : (s.popAfter).l = s.l := by
  simp [State.popAfter]
@[simp] theorem popAfter_sp (s : State) : (s.popAfter).sp = s.sp := by
  simp [State.popAfter]
@[simp] theorem popAfter_pc (s : State) : (s.popAfter).pc = s.pc := by
  simp [State.popAfter]
@[simp] theorem popAfter_halted (s : State) : (s.popAfter).halted = s.halted := by
  simp [State.popAfter]
@[simp] theorem popAfter_ime (s : State) : (s.popAfter).ime = s.ime := by
  simp [State.popAfter]
@[simp] theorem popAfter_imePending (s : State) : (s.popAfter).imePending = s.imePending := by
  simp [State.popAfter]
@[simp] theorem popAfter_haltBug (s : State) : (s.popAfter).haltBug = s.haltBug := by
  simp [State.popAfter]
@[simp] theorem popAfter_fault (s : State) : (s.popAfter).fault = s.fault := by
  simp [State.popAfter]
@[simp] theorem popAfter_ifReg (s : State) : (s.popAfter).ifReg = s.ifReg := by
  simp [State.popAfter]
@[simp] theorem popAfter_ieReg (s : State) : (s.popAfter).ieReg = s.ieReg := by
  simp [State.popAfter]
@[simp] theorem popAfter_params (s : State) : (s.popAfter).params = s.params := by
  simp [State.popAfter]
@[simp] theorem popAfter_schedule (s : State) : (s.popAfter).schedule = s.schedule := by
  simp [State.popAfter]
@[simp] theorem popAfter_cycles (s : State) : (s.popAfter).cycles = s.cycles := by
  simp [State.popAfter]

/-! ### readAluSrc -/

@[simp] theorem readAluSrc_a (s : State) (x : AluSrc) : ((readAluSrc x s).2).a = s.a := by
  cases x with
  | r8 r => cases r <;> rfl
  | n8 n => rfl
@[simp] theorem readAluSrc_f (s : State) (x : AluSrc) : ((readAluSrc x s).2).f = s.f := by
  cases x with
  | r8 r => cases r <;> rfl
  | n8 n => rfl
@[simp] theorem readAluSrc_b (s : State) (x : AluSrc) : ((readAluSrc x s).2).b = s.b := by
  cases x with
  | r8 r => cases r <;> rfl
  | n8 n => rfl
@[simp] theorem readAluSrc_c (s : State) (x : AluSrc) : ((readAluSrc x s).2).c = s.c := by
  cases x with
  | r8 r => cases r <;> rfl
  | n8 n => rfl
@[simp] theorem readAluSrc_d (s : State) (x : AluSrc) : ((readAluSrc x s).2).d = s.d := by
  cases x with
  | r8 r => cases r <;> rfl
  | n8 n => rfl
@[simp] theorem readAluSrc_e (s : State) (x : AluSrc) : ((readAluSrc x s).2).e = s.e := by
  cases x with
  | r8 r => cases r <;> rfl
  | n8 n => rfl
@[simp] theorem readAluSrc_h (s : State) (x : AluSrc) : ((readAluSrc x s).2).h = s.h := by
  cases x with
  | r8 r => cases r <;> rfl
  | n8 n => rfl
@[simp] theorem readAluSrc_l (s : State) (x : AluSrc) : ((readAluSrc x s).2).l = s.l := by
  cases x with
  | r8 r => cases r <;> rfl
  | n8 n => rfl
@[simp] theorem readAluSrc_sp (s : State) (x : AluSrc) : ((readAluSrc x s).2).sp = s.sp := by
  cases x with
  | r8 r => cases r <;> rfl
  | n8 n => rfl
@[simp] theorem readAluSrc_pc (s : State) (x : AluSrc) : ((readAluSrc x s).2).pc = s.pc := by
  cases x with
  | r8 r => cases r <;> rfl
  | n8 n => rfl
@[simp] theorem readAluSrc_halted (s : State) (x : AluSrc) : ((readAluSrc x s).2).halted = s.halted := by
  cases x with
  | r8 r => cases r <;> rfl
  | n8 n => rfl
@[simp] theorem readAluSrc_ime (s : State) (x : AluSrc) : ((readAluSrc x s).2).ime = s.ime := by
  cases x with
  | r8 r => cases r <;> rfl
  | n8 n => rfl
@[simp] theorem readAluSrc_imePending (s : State) (x : AluSrc) : ((readAluSrc x s).2).imePending = s.imePending := by
  cases x with
  | r8 r => cases r <;> rfl
  | n8 n => rfl
@[simp] theorem readAluSrc_haltBug (s : State) (x : AluSrc) : ((readAluSrc x s).2).haltBug = s.haltBug := by
  cases x with
  | r8 r => cases r <;> rfl
  | n8 n => rfl
@[simp] theorem readAluSrc_fault (s : State) (x : AluSrc) : ((readAluSrc x s).2).fault = s.fault := by
  cases x with
  | r8 r => cases r <;> rfl
  | n8 n => rfl
@[simp] theorem readAluSrc_ifReg (s : State) (x : AluSrc) : ((readAluSrc x s).2).ifReg = s.ifReg := by
  cases x <;> simp [readAluSrc]
@[simp] theorem readAluSrc_ieReg (s : State) (x : AluSrc) : ((readAluSrc x s).2).ieReg = s.ieReg := by
  cases x <;> simp [readAluSrc]
@[simp] theorem readAluSrc_params (s : State) (x : AluSrc) : ((readAluSrc x s).2).params = s.params := by
  cases x with
  | r8 r => cases r <;> rfl
  | n8 n => rfl
@[simp] theorem readAluSrc_schedule (s : State) (x : AluSrc) : ((readAluSrc x s).2).schedule = s.schedule := by
  cases x with
  | r8 r => cases r <;> rfl
  | n8 n => rfl
@[simp] theorem readAluSrc_cycles (s : State) (x : AluSrc) : ((readAluSrc x s).2).cycles = s.cycles := by
  cases x with
  | r8 r => cases r <;> rfl
  | n8 n => rfl

end Sys2Proof.Machine
end

