-- ==== Sys2Proof/Laws/Bus.lean ====
section
/-! SUPPORT. What the bus and the stack do, said once: what one access leaves of the environment, what a byte reads as after each
update of the state (`peek`), the registers after each update (`reg`), and what `Push16` and `Pop16` answer. -/

namespace Sys2Proof.Machine

/-! ### IF and IE -/

@[simp] theorem irqBits_irqBits (v : Byte) : irqBits (irqBits v) = irqBits v := by
  simp [irqBits, BitVec.and_assoc]

@[simp] theorem irqBits_top (v : Byte) : irqBits v &&& 0xE0#8 = 0#8 := by
  rw [irqBits, BitVec.and_assoc]; simp

/-- A byte of IF or IE with bits 7..5 clear is what the interface answers (R63). -/
theorem irqBits_of_top {v : Byte} (h : v &&& 0xE0#8 = 0#8) : irqBits v = v := by
  have all : ∀ v : Byte, v &&& 0xE0#8 = 0#8 → v &&& 0x1F#8 = v := by decide
  exact all v h

/-! ### One access, on the environment -/

theorem envEffect_wf (env : BusEnv) (x : BusEffect) (h : Memory.wf env.mem = true) :
    Memory.wf (envEffect env x).mem = true := memory_wf_apply env.mem x.bytes h

/-- Writing IF or IE leaves memory and what the peripherals hold. -/
@[simp] theorem irqWrite_mem (p : Params) (env : BusEnv) (a : Word) (v : Byte) : (irqWrite p env a v).mem = env.mem := by
  unfold irqWrite; split_ifs <;> rfl

@[simp] theorem irqWrite_device (p : Params) (env : BusEnv) (a : Word) (v : Byte) : (irqWrite p env a v).device = env.device := by
  unfold irqWrite; split_ifs <;> rfl

/-- What a write leaves in IF (R63). -/
theorem irqWrite_ifReg (p : Params) (env : BusEnv) (a : Word) (v : Byte) :
    (irqWrite p env a v).ifReg = if a = p.ifAddr then irqBits v else env.ifReg := by
  unfold irqWrite; split_ifs <;> rfl

/-- What a write leaves in IE (R63; log 5). -/
theorem irqWrite_ieReg (p : Params) (env : BusEnv) (a : Word) (v : Byte) :
    (irqWrite p env a v).ieReg = if a = p.ieAddr ∧ a ≠ p.ifAddr then irqBits v else env.ieReg := by
  unfold irqWrite; split_ifs <;> simp_all

theorem envStore_wf (p : Params) (env : BusEnv) (a : Word) (v : Byte) (h : Memory.wf env.mem = true) :
    Memory.wf (envStore p env a v).mem = true := by
  unfold envStore; split_ifs
  · simpa using h
  · exact memory_wf_write env.mem _ v h (by simpa using a.isLt)

theorem envRead_wf (p : Params) (env : BusEnv) (a : Word) (h : Memory.wf env.mem = true) :
    Memory.wf (envRead p env a).2.mem = true := by
  unfold envRead; split
  · exact h
  · exact envEffect_wf env _ h

theorem envWrite_wf (p : Params) (env : BusEnv) (a : Word) (v : Byte) (h : Memory.wf env.mem = true) :
    Memory.wf (envWrite p env a v).mem = true := by
  unfold envWrite; split
  · exact envStore_wf p env a v h
  · exact envEffect_wf _ _ (by simpa using h)

/-- Under `RamBus` a read answers IF, IE or the byte of memory, and changes nothing (R52). -/
theorem envRead_ram {p : Params} (h : p.bus = .ram) (env : BusEnv) (a : Word) :
    envRead p env a = (irqRead p env a (Memory.read env.mem a.toNat), env) := by
  rw [envRead, h]

/-- Under `RamBus` a write changes the byte it is of (R52). -/
theorem envWrite_ram {p : Params} (h : p.bus = .ram) (env : BusEnv) (a : Word) (v : Byte) :
    envWrite p env a v = envStore p env a v := by
  rw [envWrite, h]

theorem envStore_ifReg (p : Params) (env : BusEnv) (a : Word) (v : Byte) :
    (envStore p env a v).ifReg = (irqWrite p env a v).ifReg := by
  unfold envStore irqWrite; split_ifs <;> simp_all

theorem envStore_ieReg (p : Params) (env : BusEnv) (a : Word) (v : Byte) :
    (envStore p env a v).ieReg = (irqWrite p env a v).ieReg := by
  unfold envStore irqWrite; split_ifs <;> simp_all

/-- Whatever the bus, IF changes only when it is written at its address (R63, R306). -/
theorem envWrite_ifReg (p : Params) (env : BusEnv) (a : Word) (v : Byte) :
    (envWrite p env a v).ifReg = if a = p.ifAddr then irqBits v else env.ifReg := by
  rw [← irqWrite_ifReg, envWrite]; split
  · exact envStore_ifReg p env a v
  · rfl

/-- Whatever the bus, IE changes only when it is written at its address (R63, R306). -/
theorem envWrite_ieReg (p : Params) (env : BusEnv) (a : Word) (v : Byte) :
    (envWrite p env a v).ieReg = if a = p.ieAddr ∧ a ≠ p.ifAddr then irqBits v else env.ieReg := by
  rw [← irqWrite_ieReg, envWrite]; split
  · exact envStore_ieReg p env a v
  · rfl

theorem irqWrite_ifTop (p : Params) (env : BusEnv) (a : Word) (v : Byte) (h : env.ifReg &&& 0xE0#8 = 0#8) :
    (irqWrite p env a v).ifReg &&& 0xE0#8 = 0#8 := by
  rw [irqWrite_ifReg]; split_ifs <;> simp [h]

theorem irqWrite_ieTop (p : Params) (env : BusEnv) (a : Word) (v : Byte) (h : env.ieReg &&& 0xE0#8 = 0#8) :
    (irqWrite p env a v).ieReg &&& 0xE0#8 = 0#8 := by
  rw [irqWrite_ieReg]; split_ifs <;> simp [h]

theorem envStore_ifTop (p : Params) (env : BusEnv) (a : Word) (v : Byte) (h : env.ifReg &&& 0xE0#8 = 0#8) :
    (envStore p env a v).ifReg &&& 0xE0#8 = 0#8 := by
  rw [envStore_ifReg]; exact irqWrite_ifTop p env a v h

theorem envStore_ieTop (p : Params) (env : BusEnv) (a : Word) (v : Byte) (h : env.ieReg &&& 0xE0#8 = 0#8) :
    (envStore p env a v).ieReg &&& 0xE0#8 = 0#8 := by
  rw [envStore_ieReg]; exact irqWrite_ieTop p env a v h

theorem envWrite_ifTop (p : Params) (env : BusEnv) (a : Word) (v : Byte) (h : env.ifReg &&& 0xE0#8 = 0#8) :
    (envWrite p env a v).ifReg &&& 0xE0#8 = 0#8 := by
  rw [envWrite_ifReg]; split_ifs <;> simp [h]

theorem envWrite_ieTop (p : Params) (env : BusEnv) (a : Word) (v : Byte) (h : env.ieReg &&& 0xE0#8 = 0#8) :
    (envWrite p env a v).ieReg &&& 0xE0#8 = 0#8 := by
  rw [envWrite_ieReg]; split_ifs <;> simp [h]

/-! ### One access, on the state -/

/-- A byte's value depends on the environment and the parameters only. -/
theorem peek_congr {s t : State} (h : t.busEnv = s.busEnv) (hp : t.params = s.params) (addr : Word) :
    t.peek addr = s.peek addr := by
  rw [State.peek, State.peek, h, hp]

theorem busEnv_ext {s t : State} (hm : t.mem = s.mem) (hd : t.device = s.device) (hi : t.ifReg = s.ifReg)
    (he : t.ieReg = s.ieReg) : t.busEnv = s.busEnv := by
  simp only [State.busEnv, hm, hd, hi, he]

/-- A bus read answers a byte, changes memory and what the peripherals hold as the bus says, adds one entry to the bus log, and does
nothing else (R51). -/
theorem busRead_eq (s : State) (addr : Word) : busRead addr s = (s.peek addr, { s with
    mem := (s.afterRead addr).mem, device := (s.afterRead addr).device, bus := s.bus ++ [.read addr (s.peek addr)] }) := by
  have hi := afterRead_ifReg s addr
  have he := afterRead_ieReg s addr
  rw [busRead]; congr 1
  conv_rhs => rw [← hi, ← he]
  rfl

/-- A bus write changes IF, IE, memory and what the peripherals hold as the bus says, adds one entry to the bus log, and does nothing
else (R51, R63). -/
theorem busWrite_eq (s : State) (addr : Word) (v : Byte) : busWrite addr v s =
    { s.withEnv (envWrite s.params s.busEnv addr v) with bus := s.bus ++ [.write addr v] } := rfl

/-- Under `RamBus` a bus read adds one entry to the bus log, and does nothing else (R52). -/
theorem busRead_ram {s : State} (h : s.params.bus = .ram) (addr : Word) :
    busRead addr s = (s.peek addr, { s with bus := s.bus ++ [.read addr (s.peek addr)] }) := by
  rw [busRead, State.afterRead, envRead_ram h]; rfl

@[simp] theorem busRead_fst (s : State) (addr : Word) : (busRead addr s).1 = s.peek addr := rfl

/-- SP plays no part in a bus access. -/
theorem busRead_setSp (s : State) (x addr : Word) :
    busRead addr { s with sp := x } = ((busRead addr s).1, { (busRead addr s).2 with sp := x }) := rfl

/-- PC plays no part in a bus access. -/
theorem busRead_setPc (s : State) (x addr : Word) :
    busRead addr { s with pc := x } = ((busRead addr s).1, { (busRead addr s).2 with pc := x }) := rfl

/-- The HALT bug and PC play no part in a bus access. -/
theorem busRead_setFetch (s : State) (b : Bool) (x addr : Word) : busRead addr { s with haltBug := b, pc := x } =
    ((busRead addr s).1, { (busRead addr s).2 with haltBug := b, pc := x }) := rfl

theorem busWrite_setSp (s : State) (x addr : Word) (v : Byte) :
    busWrite addr v { s with sp := x } = { busWrite addr v s with sp := x } := rfl

theorem busRead_wf (s : State) (addr : Word) (h : s.mem.wf = true) : (busRead addr s).2.mem.wf = true :=
  envRead_wf s.params s.busEnv addr h

theorem busWrite_wf (s : State) (addr : Word) (v : Byte) (h : s.mem.wf = true) : (busWrite addr v s).mem.wf = true :=
  envWrite_wf s.params s.busEnv addr v h

/-- Whatever the bus, IF and IE answer at their addresses (R63). -/
theorem peek_ifAddr (s : State) : s.peek s.params.ifAddr = irqBits s.ifReg := by
  unfold State.peek envRead; split <;> simp [irqRead, State.busEnv]

theorem peek_ieAddr (s : State) (h : s.params.ieAddr ≠ s.params.ifAddr) : s.peek s.params.ieAddr = irqBits s.ieReg := by
  unfold State.peek envRead; split <;> simp [irqRead, State.busEnv, h]

/-- Whatever the bus, IF and IE after a write (R63, R306). -/
theorem ifReg_of_busWrite (s : State) (addr : Word) (v : Byte) :
    (busWrite addr v s).ifReg = if addr = s.params.ifAddr then irqBits v else s.ifReg := envWrite_ifReg s.params s.busEnv addr v

theorem ieReg_of_busWrite (s : State) (addr : Word) (v : Byte) :
    (busWrite addr v s).ieReg = if addr = s.params.ieAddr ∧ addr ≠ s.params.ifAddr then irqBits v else s.ieReg :=
  envWrite_ieReg s.params s.busEnv addr v

theorem busWrite_ifReg_other (s : State) (addr : Word) (v : Byte) (h : addr ≠ s.params.ifAddr) :
    (busWrite addr v s).ifReg = s.ifReg := (ifReg_of_busWrite s addr v).trans (if_neg h)

theorem busWrite_ieReg_other (s : State) (addr : Word) (v : Byte) (h : addr ≠ s.params.ieAddr) :
    (busWrite addr v s).ieReg = s.ieReg := (ieReg_of_busWrite s addr v).trans (if_neg fun hh => h hh.1)

/-- Under `RamBus` a byte written reads back, through the mask of IF and IE (R52, R63). -/
theorem peek_busWrite_same {s : State} (hr : s.params.bus = .ram) (addr : Word) (v : Byte) (h : s.mem.wf = true) :
    (busWrite addr v s).peek addr = s.stored addr v := by
  have hm := memory_read_write_same s.mem addr.toNat v 0 h
  show (envRead s.params (envWrite s.params s.busEnv addr v) addr).1 = _
  rw [envWrite_ram hr, envRead_ram hr, irqRead, envStore_ifReg, envStore_ieReg, irqWrite_ifReg, irqWrite_ieReg]
  unfold State.stored
  by_cases h1 : addr = s.params.ifAddr
  · rw [if_pos h1, if_pos h1, irqBits_irqBits, if_pos (.inl h1)]; rfl
  · by_cases h2 : addr = s.params.ieAddr
    · rw [if_neg h1, if_pos h2, if_pos ⟨h2, h1⟩, irqBits_irqBits, if_pos (.inr h2)]; rfl
    · rw [if_neg h1, if_neg h2, if_neg (by simp [h1, h2]), envStore, if_neg (by simp [h1, h2])]; exact hm

/-- Under `RamBus` a write leaves every other byte (R52). -/
theorem peek_busWrite_other {s : State} (hr : s.params.bus = .ram) (addr b : Word) (v : Byte) (hb : b ≠ addr) :
    (busWrite addr v s).peek b = s.peek b := by
  have hm := memory_read_write_other s.mem addr.toNat b.toNat v (fun hh => hb (BitVec.eq_of_toNat_eq hh))
  show (envRead s.params (envWrite s.params s.busEnv addr v) b).1 = (envRead s.params s.busEnv b).1
  rw [envWrite_ram hr, envRead_ram hr, envRead_ram hr]
  unfold irqRead
  by_cases h1 : b = s.params.ifAddr
  · rw [if_pos h1, if_pos h1, envStore_ifReg, irqWrite_ifReg, if_neg (fun h => hb (h1.trans h.symm))]
  · by_cases h2 : b = s.params.ieAddr
    · rw [if_neg h1, if_neg h1, if_pos h2, if_pos h2, envStore_ieReg, irqWrite_ieReg, if_neg (fun h => hb (h2.trans h.1.symm))]
    · rw [if_neg h1, if_neg h1, if_neg h2, if_neg h2]
      unfold envStore; split_ifs
      · rw [irqWrite_mem]
      · exact hm

/-- Under `RamBus` a read leaves every byte (R52). -/
theorem peek_busRead_ram {s : State} (hr : s.params.bus = .ram) (addr b : Word) : (busRead addr s).2.peek b = s.peek b := by
  rw [busRead_ram hr]; rfl

/-! ### Every byte but some -/

/-- A state with the same environment and parameters keeps every byte that the other keeps. -/
theorem KeepsBytes.congr {s t u : State} {l : List Word} (k : KeepsBytes s u l) (h : t.busEnv = u.busEnv)
    (hp : t.params = u.params) : KeepsBytes s t l where
  bytes := fun hr a ha => (peek_congr h hp a).trans (k.bytes hr a ha)
  ifReg := fun ha => (congrArg BusEnv.ifReg h).trans (k.ifReg ha)
  ieReg := fun ha => (congrArg BusEnv.ieReg h).trans (k.ieReg ha)

theorem KeepsBytes.refl (s : State) : KeepsBytes s s [] := ⟨fun _ _ _ => rfl, fun _ => rfl, fun _ => rfl⟩

theorem KeepsBytes.trans {s t u : State} {l m : List Word} (k : KeepsBytes s t l) (hp : t.params = s.params)
    (k' : KeepsBytes t u m) : KeepsBytes s u (l ++ m) where
  bytes := fun hr a ha => (k'.bytes (by rw [hp]; exact hr) a fun h => ha (List.mem_append_right _ h)).trans
    (k.bytes hr a fun h => ha (List.mem_append_left _ h))
  ifReg := fun ha => (k'.ifReg (by rw [hp]; exact fun h => ha (List.mem_append_right _ h))).trans
    (k.ifReg fun h => ha (List.mem_append_left _ h))
  ieReg := fun ha => (k'.ieReg (by rw [hp]; exact fun h => ha (List.mem_append_right _ h))).trans
    (k.ieReg fun h => ha (List.mem_append_left _ h))

/-- A state that keeps the environment and the parameters keeps every byte. -/
theorem keepsBytes_of_eq {s t : State} (h : t.busEnv = s.busEnv) (hp : t.params = s.params) : KeepsBytes s t [] :=
  (KeepsBytes.refl s).congr h hp

theorem keepsBytes_busRead (s : State) (addr : Word) : KeepsBytes s (busRead addr s).2 [] where
  bytes := fun hr a _ => peek_busRead_ram hr addr a
  ifReg := fun _ => busRead_ifReg s addr
  ieReg := fun _ => busRead_ieReg s addr

/-- A write leaves every byte but the one it is of (R51, R63). -/
theorem keepsBytes_busWrite (s : State) (addr : Word) (v : Byte) : KeepsBytes s (busWrite addr v s) [addr] where
  bytes := fun hr a ha => peek_busWrite_other hr addr a v (by simpa using ha)
  ifReg := fun h => busWrite_ifReg_other s addr v (by simpa [eq_comm] using h)
  ieReg := fun h => busWrite_ieReg_other s addr v (by simpa [eq_comm] using h)

/-! ### Registers -/

@[simp] theorem reg_setFlags (s : State) (fl : Flags) (q : Reg) : (s.setFlags fl).reg q = s.reg q := by cases q <;> simp [State.reg]

@[simp] theorem reg_finish (s : State) (n : Nat) (q : Reg) : (s.finish n).reg q = s.reg q := by cases q <;> simp [State.reg]

@[simp] theorem reg_raise (s : State) (x : Fault) (q : Reg) : (s.raise x).reg q = s.reg q := by cases q <;> simp [State.reg]

@[simp] theorem reg_clearIfBit (s : State) (k : Nat) (q : Reg) : (s.clearIfBit k).reg q = s.reg q := by cases q <;> simp [State.reg]

@[simp] theorem reg_withEnv (s : State) (env : BusEnv) (q : Reg) : (s.withEnv env).reg q = s.reg q := by cases q <;> rfl

@[simp] theorem reg_busRead (s : State) (addr : Word) (q : Reg) : ((busRead addr s).2).reg q = s.reg q := by cases q <;> simp [State.reg]

@[simp] theorem reg_busWrite (s : State) (addr : Word) (v : Byte) (q : Reg) : (busWrite addr v s).reg q = s.reg q := by cases q <;> simp [State.reg]

@[simp] theorem reg_push16 (s : State) (v : Word) (q : Reg) : (push16 v s).reg q = s.reg q := by cases q <;> simp [State.reg]

@[simp] theorem reg_pop16 (s : State) (q : Reg) : ((pop16 s).2).reg q = s.reg q := by cases q <;> simp [State.reg]

@[simp] theorem reg_readImm8 (s : State) (q : Reg) : ((readImm8 s).2).reg q = s.reg q := by cases q <;> simp [State.reg]

@[simp] theorem reg_readImm16 (s : State) (q : Reg) : ((readImm16 s).2).reg q = s.reg q := by cases q <;> simp [State.reg]

@[simp] theorem reg_readR8 (s : State) (r : R8) (q : Reg) : ((readR8 r s).2).reg q = s.reg q := by cases q <;> simp [State.reg]

@[simp] theorem reg_readAluSrc (s : State) (x : AluSrc) (q : Reg) : ((readAluSrc x s).2).reg q = s.reg q := by cases q <;> simp [State.reg]

@[simp] theorem reg_setReg_same (s : State) (r : Reg) (v : Byte) : (s.setReg r v).reg r = v := by cases r <;> rfl

theorem reg_setReg_other (s : State) (r q : Reg) (v : Byte) (h : q ≠ r) : (s.setReg r v).reg q = s.reg q := by
  cases r <;> cases q <;> first | rfl | exact absurd rfl h

/-- Writing a register changes neither the environment nor the parameters. -/
@[simp] theorem busEnv_setReg (s : State) (r : Reg) (v : Byte) : (s.setReg r v).busEnv = s.busEnv := by cases r <;> rfl

@[simp] theorem busEnv_setR16 (s : State) (rr : R16) (v : Word) : (s.setR16 rr v).busEnv = s.busEnv := by cases rr <;> rfl

@[simp] theorem busEnv_setR16stk (s : State) (rr : R16stk) (v : Word) : (s.setR16stk rr v).busEnv = s.busEnv := by cases rr <;> rfl

@[simp] theorem busEnv_bumpPtr (s : State) (m : R16mem) : (s.bumpPtr m).busEnv = s.busEnv := by cases m <;> rfl

/-! ### Operands -/

/-- Reading an r8 operand: its value, and at most one bus read (R73). -/
theorem readR8_eq (s : State) (r : R8) : readR8 r s = (s.r8Value r, s.r8After r) := by cases r <;> rfl

/-- Reading an accumulator operation's source: its value, and at most one bus read (R120). -/
theorem readAluSrc_eq (s : State) (x : AluSrc) : readAluSrc x s = (s.aluValue x, s.aluAfter x) := by
  cases x with
  | r8 r => exact readR8_eq s r
  | n8 n => rfl

/-- Reading an r8 operand changes memory, what the peripherals hold and the bus log only. -/
theorem r8After_eq (s : State) (r : R8) : s.r8After r =
    { s with mem := (s.r8After r).mem, device := (s.r8After r).device, bus := (s.r8After r).bus } := by
  cases r with
  | reg r => rfl
  | atHl => rw [State.r8After, busRead_eq]

theorem aluAfter_eq (s : State) (x : AluSrc) : s.aluAfter x =
    { s with mem := (s.aluAfter x).mem, device := (s.aluAfter x).device, bus := (s.aluAfter x).bus } := by
  cases x with
  | r8 r => exact r8After_eq s r
  | n8 n => rfl

theorem keepsBytes_r8After (s : State) (r : R8) : KeepsBytes s (s.r8After r) [] := by
  cases r with
  | reg r => exact KeepsBytes.refl s
  | atHl => exact keepsBytes_busRead s s.hl

theorem keepsBytes_aluAfter (s : State) (x : AluSrc) : KeepsBytes s (s.aluAfter x) [] := by
  cases x with
  | r8 r => exact keepsBytes_r8After s r
  | n8 n => exact KeepsBytes.refl s

@[simp] theorem readImm8_fst (s : State) : (readImm8 s).1 = s.peek s.pc := rfl

/-- Everything an operation does that reads an r8 operand and then writes it (R73), whatever it then does to F. -/
theorem modifiesR8_write (s : State) (r : R8) (v : Byte) (hw : s.mem.wf = true) (f : Byte) (n : Option Nat) :
    ModifiesR8 s { writeR8 r v (s.r8After r) with f := f, cycles := n } r v := by
  cases r with
  | reg r =>
    have hr : ∀ q, State.reg { writeR8 (.reg r) v (s.r8After (.reg r)) with f := f, cycles := n } q = (s.setReg r v).reg q := by
      intro q; cases r <;> cases q <;> rfl
    refine ⟨by simp [hr], fun q hq => ?_, keepsBytes_of_eq (busEnv_setReg s r v) ?_, ?_, ?_,
      ⟨?_, ?_, ?_, ?_, ?_, ?_, ?_⟩, busEnv_setReg s r v, ?_⟩
    · rw [hr]; exact reg_setReg_other s r q v (by simpa using hq)
    all_goals simp [writeR8, State.r8After]
  | atHl =>
    have hk := (keepsBytes_busRead s s.hl).trans (busRead_params s s.hl) (keepsBytes_busWrite (busRead s.hl s).2 s.hl v)
    refine ⟨fun hr => ?_, fun q _ => ?_, hk.congr rfl rfl, ?_, ?_, ⟨?_, ?_, ?_, ?_, ?_, ?_, ?_⟩, rfl, rfl⟩
    · have := peek_busWrite_same (s := (busRead s.hl s).2) (by simpa using hr) s.hl v (busRead_wf s s.hl hw)
      exact this
    · cases q <;> simp [writeR8, State.reg, State.r8After]
    all_goals simp [writeR8, State.r8After]

/-! ### The stack -/

/-- `Push16` is two bus writes, the high byte first, and moves SP (R55). -/
theorem push16_eq (s : State) (v : Word) : push16 v s =
    { busWrite (s.sp - 2#16) (loByte v) (busWrite (s.sp - 1#16) (hiByte v) s) with sp := s.sp - 2#16 } := by
  have h : s.sp - 2#16 = s.sp - 1#16 - 1#16 := by bv_omega
  rw [h]; simp only [push16, busWrite_setSp]

/-- `Pop16` answers the word on the stack, with two bus reads, and moves SP (R56). -/
theorem pop16_eq (s : State) : pop16 s = (s.stackTop, { s.popAfter with sp := s.sp + 2#16 }) := by
  have h : s.sp + 2#16 = s.sp + 1#16 + 1#16 := by bv_omega
  rw [h]; simp only [pop16, busRead_setSp, busRead_sp]; rfl

/-- The two reads of a pop change memory, what the peripherals hold and the bus log only. -/
theorem popAfter_eq (s : State) : s.popAfter =
    { s with mem := s.popAfter.mem, device := s.popAfter.device, bus := s.popAfter.bus } := by
  unfold State.popAfter; rw [busRead_eq (busRead s.sp s).2, busRead_eq s s.sp]

theorem keepsBytes_popAfter (s : State) : KeepsBytes s s.popAfter [] :=
  (keepsBytes_busRead s s.sp).trans (busRead_params s s.sp) (keepsBytes_busRead (busRead s.sp s).2 (s.sp + 1#16))

@[simp] theorem push16_sp (s : State) (v : Word) : (push16 v s).sp = s.sp - 2#16 := by rw [push16_eq]

/-- Two writes at two addresses, under `RamBus`: what is stored at each. -/
theorem peek_busWrite_twice {s : State} (hr : s.params.bus = .ram) (hw : s.mem.wf = true) {a b : Word} (hne : a ≠ b)
    (v w : Byte) : (busWrite b w (busWrite a v s)).peek a = s.stored a v ∧ (busWrite b w (busWrite a v s)).peek b = s.stored b w := by
  have hr' : (busWrite a v s).params.bus = .ram := by simpa using hr
  exact ⟨(peek_busWrite_other hr' b a w hne).trans (peek_busWrite_same hr a v hw),
    peek_busWrite_same hr' b w (busWrite_wf s a v hw)⟩

theorem keepsBytes_busWrite_twice (s : State) (a b : Word) (v w : Byte) :
    KeepsBytes s (busWrite b w (busWrite a v s)) [a, b] :=
  (keepsBytes_busWrite s a v).trans (busWrite_params s a v) (keepsBytes_busWrite (busWrite a v s) b w)

/-- Everything `Push16` does (R55). -/
theorem push16_pushed (s : State) (v : Word) (h : s.mem.wf = true) : Pushed s (push16 v s) v := by
  have hne : s.sp - 1#16 ≠ s.sp - 2#16 := by bv_omega
  have hk := keepsBytes_busWrite_twice s (s.sp - 1#16) (s.sp - 2#16) (hiByte v) (loByte v)
  have hp := fun hr => peek_busWrite_twice hr h hne (hiByte v) (loByte v)
  rw [push16_eq]
  generalize hu : busWrite (s.sp - 2#16) (loByte v) (busWrite (s.sp - 1#16) (hiByte v) s) = u at hk hp ⊢
  exact ⟨rfl, by rw [hu]; exact ⟨rfl, rfl⟩, fun hr => (hp hr).1, fun hr => (hp hr).2, hk.congr rfl rfl⟩

theorem push16_wf (s : State) (v : Word) (h : s.mem.wf = true) : (push16 v s).mem.wf = true := by
  rw [push16_eq]; exact busWrite_wf _ _ _ (busWrite_wf _ _ _ h)

/-- The word `Pop16` answers (R56). -/
@[simp] theorem pop16_fst (s : State) : (pop16 s).1 = s.stackTop := by rw [pop16_eq]

end Sys2Proof.Machine
end

