-- ==== Sys2Proof/Laws/Decode.lean ====
section
/-! SUPPORT. The decoder's tables and the encoder, which share no definition, row by row: each row of the unprefixed table, and each
second byte behind 0xCB, encodes as the bytes it is read from. -/

namespace Sys2Proof

/-- A property of the 256 bytes, from its 256 cases. -/
theorem byte_cases {P : Byte → Prop} (h : ∀ n : Fin 256, P (BitVec.ofNat 8 n.val)) (b : Byte) : P b := by
  have := h ⟨b.toNat, b.isLt⟩
  simpa using this

/-- The instruction of a row is well-formed and encodes as the row's opcode and the operand bytes. -/
def Slot.EncodesAs (op : Byte) : Slot → Prop
  | .op i => i.wellFormed = true ∧ encode i = [op]
  | .imm8 mk => ∀ n, (mk n).wellFormed = true ∧ encode (mk n) = [op, n]
  | .imm16 mk => ∀ n, (mk n).wellFormed = true ∧ encode (mk n) = [op, loByte n, hiByte n]
  | .cbPrefix => op = 0xCB#8

theorem unprefixedDescriptor_encodesAs (op : Byte) : (unprefixedDescriptor op).slot.EncodesAs op := by
  revert op
  refine byte_cases ?_
  intro n
  fin_cases n <;> first | exact ⟨rfl, rfl⟩ | exact fun _ => ⟨rfl, rfl⟩ | exact (rfl : (0xCB#8 : Byte) = 0xCB#8)

set_option maxRecDepth 4000 in
theorem cbInstr_encodesAs (op : Byte) : (cbInstr op).wellFormed = true ∧ encode (cbInstr op) = [0xCB#8, op] := by
  revert op
  refine byte_cases ?_
  intro n
  fin_cases n <;> exact ⟨rfl, rfl⟩

end Sys2Proof
end

