-- ==== Sys2Proof/Laws/Families.lean ====
section
/-! SUPPORT. The meaning of each family of instructions over its operand codes: the arms of `exec` and the selectors of
Sys2Proof/Syntax.lean agree, so that a claim about a family is a claim about one shared operation. -/

namespace Sys2Proof.Machine

theorem exec_ofLd (dst src : Reg) (s : State) : exec (.ofLd dst src) s = .next (ldR8R8 (.reg dst) (.reg src) 1 s) := by
  cases dst <;> cases src <;> rfl

theorem exec_ofLdN8 (dst : Reg) (n : Byte) (s : State) : exec (.ofLdN8 dst n) s = .next (ldR8N8 (.reg dst) n 2 s) := by
  cases dst <;> rfl

theorem exec_ofLdFromHl (dst : Reg) (s : State) : exec (.ofLdFromHl dst) s = .next (ldR8R8 (.reg dst) .atHl 2 s) := by
  cases dst <;> rfl

theorem exec_ofLdToHl (src : Reg) (s : State) : exec (.ofLdToHl src) s = .next (ldR8R8 .atHl (.reg src) 2 s) := by
  cases src <;> rfl

theorem exec_ofAlu (op : AluOp) (x : AluSrc) (s : State) : exec (.ofAlu op x) s = .next (aluA op x x.cost s) := by
  cases x with
  | n8 n => cases op <;> rfl
  | r8 r =>
    cases r with
    | atHl => cases op <;> rfl
    | reg r => cases op <;> cases r <;> rfl

theorem exec_ofInc8 (r : R8) (s : State) : exec (.ofInc8 r) s = .next (incR8 r (r.cost 1 3) s) := by
  cases r with
  | atHl => rfl
  | reg r => cases r <;> rfl

theorem exec_ofDec8 (r : R8) (s : State) : exec (.ofDec8 r) s = .next (decR8 r (r.cost 1 3) s) := by
  cases r with
  | atHl => rfl
  | reg r => cases r <;> rfl

theorem exec_ofLdR16 (rr : R16) (n : Word) (s : State) : exec (.ofLdR16 rr n) s = .next (ldR16 rr n 3 s) := by cases rr <;> rfl

theorem exec_ofInc16 (rr : R16) (s : State) : exec (.ofInc16 rr) s = .next (incR16 rr 2 s) := by cases rr <;> rfl

theorem exec_ofDec16 (rr : R16) (s : State) : exec (.ofDec16 rr) s = .next (decR16 rr 2 s) := by cases rr <;> rfl

theorem exec_ofAddHl (rr : R16) (s : State) : exec (.ofAddHl rr) s = .next (addHl rr 2 s) := by cases rr <;> rfl

theorem exec_ofLdAFromMem (m : R16mem) (s : State) : exec (.ofLdAFromMem m) s = .next (ldAMem m 2 s) := by cases m <;> rfl

theorem exec_ofLdMemFromA (m : R16mem) (s : State) : exec (.ofLdMemFromA m) s = .next (ldMemA m 2 s) := by cases m <;> rfl

theorem exec_ofPush (rr : R16stk) (s : State) : exec (.ofPush rr) s = .next (pushR16 rr 4 s) := by cases rr <;> rfl

theorem exec_ofPop (rr : R16stk) (s : State) : exec (.ofPop rr) s = .next (popR16 rr 3 s) := by cases rr <;> rfl

theorem exec_ofJp (cc : Cond) (n : Word) (s : State) : exec (.ofJp cc n) s = .next (jumpIf cc n 4 3 s) := by cases cc <;> rfl

theorem exec_ofJr (cc : Cond) (e : Byte) (s : State) : exec (.ofJr cc e) s = .next (jumpRelIf cc e 3 2 s) := by cases cc <;> rfl

theorem exec_ofCall (cc : Cond) (n : Word) (s : State) : exec (.ofCall cc n) s = .next (callIf cc n 6 3 s) := by
  cases cc <;> rfl

theorem exec_ofRet (cc : Cond) (s : State) : exec (.ofRet cc) s = .next (retIf cc 5 2 s) := by cases cc <;> rfl

theorem exec_ofRst (y : Fin 8) (s : State) : exec (.ofRst y) s = .next (call (rstTarget y) 4 s) := by
  have all : ∀ y : Fin 8, exec (.ofRst y) s = .next (call (rstTarget y) 4 s) := by
    intro y; fin_cases y <;> rfl
  exact all y

theorem exec_ofRot (op : RotOp) (r : R8) (s : State) : exec (.ofRot op r) s = .next (rotR8 op r (r.cost 2 4) s) := by
  cases r with
  | atHl => cases op <;> rfl
  | reg r => cases op <;> cases r <;> rfl

theorem exec_ofBit (u : Fin 8) (r : R8) (s : State) : exec (.ofBit u r) s = .next (bitR8 u r (r.cost 2 3) s) := by
  cases r with
  | atHl => fin_cases u <;> rfl
  | reg r => fin_cases u <;> cases r <;> rfl

theorem exec_ofRes (u : Fin 8) (r : R8) (s : State) : exec (.ofRes u r) s = .next (resR8 u r (r.cost 2 4) s) := by
  cases r with
  | atHl => fin_cases u <;> rfl
  | reg r => fin_cases u <;> cases r <;> rfl

theorem exec_ofSet (u : Fin 8) (r : R8) (s : State) : exec (.ofSet u r) s = .next (setR8 u r (r.cost 2 4) s) := by
  cases r with
  | atHl => fin_cases u <;> rfl
  | reg r => fin_cases u <;> cases r <;> rfl

theorem cost_ofCode (z m n : Nat) (hz : z < 8) : (R8.ofCode z).cost m n = if z = 6 then n else m := by
  interval_cases z <;> rfl

/-- The prefixed instruction of a byte (R85), by the fields of the byte, with the duration of its descriptor (R174). -/
theorem exec_cbInstr (op : Byte) (s : State) : exec (cbInstr op) s = .next (
    match fieldX op with
    | 0 => rotR8 (RotOp.ofCode (fieldY op)) (R8.ofCode (fieldZ op)) (cbCycles op) s
    | 1 => bitR8 (Fin.ofNat 8 (fieldY op)) (R8.ofCode (fieldZ op)) (cbCycles op) s
    | 2 => resR8 (Fin.ofNat 8 (fieldY op)) (R8.ofCode (fieldZ op)) (cbCycles op) s
    | _ => setR8 (Fin.ofNat 8 (fieldY op)) (R8.ofCode (fieldZ op)) (cbCycles op) s) := by
  have hz : fieldZ op < 8 := Nat.mod_lt _ (by decide)
  simp only [cbInstr, cbCycles]
  split
  · rename_i h; simp only [exec_ofRot, h, cost_ofCode _ _ _ hz]; rfl
  · rename_i h; simp only [exec_ofBit, h, cost_ofCode _ _ _ hz]; rfl
  · rename_i h; simp only [exec_ofRes, h, cost_ofCode _ _ _ hz]; rfl
  · rename_i h0 h1 h2; simp only [exec_ofSet, cost_ofCode _ _ _ hz]
    split <;> rfl

end Sys2Proof.Machine
end

