-- ==== Sys2Proof/Laws/Exec.lean ====
section
/-! SUPPORT. What every instruction leaves as it was: said once for each shared operation, and then of each arm of `exec`. -/

namespace Sys2Proof.Machine

/-- The control state, the parameters and the environment's plan are as they were, and the parts of the invariant about F, IF, IE
and memory are kept. -/
structure Plain (s t : State) : Prop extends KeepsControl s t where
  flagsLow : s.f &&& 0x0F#8 = 0#8 → t.f &&& 0x0F#8 = 0#8
  ifTop : s.ifReg &&& 0xE0#8 = 0#8 → t.ifReg &&& 0xE0#8 = 0#8
  ieTop : s.ieReg &&& 0xE0#8 = 0#8 → t.ieReg &&& 0xE0#8 = 0#8
  memory : s.mem.wf = true → t.mem.wf = true

theorem Plain.trans {s t u : State} (h : Plain s t) (k : Plain t u) : Plain s u where
  halted := k.halted.trans h.halted
  ime := k.ime.trans h.ime
  imePending := k.imePending.trans h.imePending
  haltBug := k.haltBug.trans h.haltBug
  fault := k.fault.trans h.fault
  params := k.params.trans h.params
  schedule := k.schedule.trans h.schedule
  flagsLow := k.flagsLow ∘ h.flagsLow
  ifTop := k.ifTop ∘ h.ifTop
  ieTop := k.ieTop ∘ h.ieTop
  memory := k.memory ∘ h.memory

/-- A state that differs in registers, SP, PC and the outputs of the step only. -/
theorem plain_of_eq {s t : State} (hc : KeepsControl s t) (hf : s.f &&& 0x0F#8 = 0#8 → t.f &&& 0x0F#8 = 0#8)
    (hi : t.ifReg = s.ifReg) (he : t.ieReg = s.ieReg) (hm : t.mem = s.mem) : Plain s t where
  toKeepsControl := hc
  flagsLow := hf
  ifTop := by rw [hi]; exact id
  ieTop := by rw [he]; exact id
  memory := by rw [hm]; exact id

theorem plain_finish (s : State) (n : Nat) : Plain s (s.finish n) := plain_of_eq ⟨rfl, rfl, rfl, rfl, rfl, rfl, rfl⟩ id rfl rfl rfl

theorem plain_setFlags (s : State) (fl : Flags) : Plain s (s.setFlags fl) :=
  plain_of_eq ⟨rfl, rfl, rfl, rfl, rfl, rfl, rfl⟩ (fun _ => pack_low fl) rfl rfl rfl

theorem plain_a (s : State) (v : Byte) : Plain s { s with a := v } :=
  plain_of_eq ⟨rfl, rfl, rfl, rfl, rfl, rfl, rfl⟩ id rfl rfl rfl

theorem plain_sp (s : State) (v : Word) : Plain s { s with sp := v } :=
  plain_of_eq ⟨rfl, rfl, rfl, rfl, rfl, rfl, rfl⟩ id rfl rfl rfl

theorem plain_pc (s : State) (v : Word) : Plain s { s with pc := v } :=
  plain_of_eq ⟨rfl, rfl, rfl, rfl, rfl, rfl, rfl⟩ id rfl rfl rfl

theorem plain_setReg (s : State) (r : Reg) (v : Byte) : Plain s (s.setReg r v) := by
  cases r <;> exact plain_of_eq ⟨rfl, rfl, rfl, rfl, rfl, rfl, rfl⟩ id rfl rfl rfl

theorem plain_setHl (s : State) (v : Word) : Plain s (s.setHl v) :=
  plain_of_eq ⟨rfl, rfl, rfl, rfl, rfl, rfl, rfl⟩ id rfl rfl rfl

theorem plain_setR16 (s : State) (rr : R16) (v : Word) : Plain s (s.setR16 rr v) := by
  cases rr <;> exact plain_of_eq ⟨rfl, rfl, rfl, rfl, rfl, rfl, rfl⟩ id rfl rfl rfl

theorem plain_setR16stk (s : State) (rr : R16stk) (v : Word) : Plain s (s.setR16stk rr v) := by
  cases rr
  case af => exact plain_of_eq ⟨rfl, rfl, rfl, rfl, rfl, rfl, rfl⟩ (fun _ => and_f0_low _) rfl rfl rfl
  all_goals exact plain_of_eq ⟨rfl, rfl, rfl, rfl, rfl, rfl, rfl⟩ id rfl rfl rfl

theorem plain_bumpPtr (s : State) (m : R16mem) : Plain s (s.bumpPtr m) := by
  cases m <;> exact plain_of_eq ⟨rfl, rfl, rfl, rfl, rfl, rfl, rfl⟩ id rfl rfl rfl

/-- A state with another environment, as sound as the first. -/
theorem plain_withEnv (s : State) (env : BusEnv) (hi : s.ifReg &&& 0xE0#8 = 0#8 → env.ifReg &&& 0xE0#8 = 0#8)
    (he : s.ieReg &&& 0xE0#8 = 0#8 → env.ieReg &&& 0xE0#8 = 0#8) (hm : s.mem.wf = true → Memory.wf env.mem = true) :
    Plain s (s.withEnv env) :=
  { toKeepsControl := ⟨rfl, rfl, rfl, rfl, rfl, rfl, rfl⟩, flagsLow := id, ifTop := hi, ieTop := he, memory := hm }

theorem plain_bus (s : State) (l : List BusAccess) : Plain s { s with bus := l } :=
  plain_of_eq ⟨rfl, rfl, rfl, rfl, rfl, rfl, rfl⟩ id rfl rfl rfl

theorem plain_busRead (s : State) (addr : Word) : Plain s (busRead addr s).2 :=
  (plain_withEnv s _ (fun h => (congrArg (· &&& 0xE0#8) (afterRead_ifReg s addr)).trans h)
    (fun h => (congrArg (· &&& 0xE0#8) (afterRead_ieReg s addr)).trans h) (envRead_wf s.params s.busEnv addr)).trans (plain_bus _ _)

theorem plain_busWrite (s : State) (addr : Word) (v : Byte) : Plain s (busWrite addr v s) :=
  (plain_withEnv s _ (envWrite_ifTop s.params s.busEnv addr v) (envWrite_ieTop s.params s.busEnv addr v)
    (envWrite_wf s.params s.busEnv addr v)).trans (plain_bus _ _)

theorem plain_push16 (s : State) (v : Word) : Plain s (push16 v s) :=
  (((plain_sp s _).trans (plain_busWrite _ _ _)).trans (plain_sp _ _)).trans (plain_busWrite _ _ _)

theorem plain_pop16 (s : State) : Plain s (pop16 s).2 :=
  (((plain_busRead s _).trans (plain_sp _ _)).trans (plain_busRead _ _)).trans (plain_sp _ _)

theorem plain_readImm8 (s : State) : Plain s (readImm8 s).2 := (plain_busRead s _).trans (plain_pc _ _)

theorem plain_readImm16 (s : State) : Plain s (readImm16 s).2 := (plain_readImm8 s).trans (plain_readImm8 _)

theorem plain_readR8 (s : State) (r : R8) : Plain s (readR8 r s).2 := by
  cases r with
  | reg r => exact plain_of_eq ⟨rfl, rfl, rfl, rfl, rfl, rfl, rfl⟩ id rfl rfl rfl
  | atHl => exact plain_busRead s s.hl

theorem plain_readAluSrc (s : State) (x : AluSrc) : Plain s (readAluSrc x s).2 := by
  cases x with
  | r8 r => exact plain_readR8 s r
  | n8 n => exact plain_of_eq ⟨rfl, rfl, rfl, rfl, rfl, rfl, rfl⟩ id rfl rfl rfl

theorem plain_writeR8 (s : State) (r : R8) (v : Byte) : Plain s (writeR8 r v s) := by
  cases r with
  | reg r => exact plain_setReg s r v
  | atHl => exact plain_busWrite s _ v

theorem plain_jump (s : State) (x : Word) (n : Nat) : Plain s (jump x n s) := (plain_pc s x).trans (plain_finish _ n)

theorem plain_call (s : State) (x : Word) (n : Nat) : Plain s (call x n s) := (plain_push16 s _).trans (plain_jump _ x n)

theorem plain_ret (s : State) (n : Nat) : Plain s (ret n s) := (plain_pop16 s).trans (plain_jump _ _ n)

theorem plain_rotR8 (s : State) (op : RotOp) (r : R8) (n : Nat) : Plain s (rotR8 op r n s) :=
  (((plain_readR8 s r).trans (plain_writeR8 _ _ _)).trans (plain_setFlags _ _)).trans (plain_finish _ n)

theorem plain_bitR8 (s : State) (u : Fin 8) (r : R8) (n : Nat) : Plain s (bitR8 u r n s) :=
  ((plain_readR8 s r).trans (plain_setFlags _ _)).trans (plain_finish _ n)

theorem plain_resR8 (s : State) (u : Fin 8) (r : R8) (n : Nat) : Plain s (resR8 u r n s) :=
  ((plain_readR8 s r).trans (plain_writeR8 _ _ _)).trans (plain_finish _ n)

theorem plain_setR8 (s : State) (u : Fin 8) (r : R8) (n : Nat) : Plain s (setR8 u r n s) :=
  ((plain_readR8 s r).trans (plain_writeR8 _ _ _)).trans (plain_finish _ n)

theorem plain_aluA (s : State) (op : AluOp) (x : AluSrc) (n : Nat) : Plain s (aluA op x n s) :=
  (((plain_readAluSrc s x).trans (plain_a _ _)).trans (plain_setFlags _ _)).trans (plain_finish _ n)

theorem plain_incR8 (s : State) (r : R8) (n : Nat) : Plain s (incR8 r n s) :=
  (((plain_readR8 s r).trans (plain_writeR8 _ _ _)).trans (plain_setFlags _ _)).trans (plain_finish _ n)

theorem plain_decR8 (s : State) (r : R8) (n : Nat) : Plain s (decR8 r n s) :=
  (((plain_readR8 s r).trans (plain_writeR8 _ _ _)).trans (plain_setFlags _ _)).trans (plain_finish _ n)

theorem plain_daa (s : State) (n : Nat) : Plain s (daa n s) :=
  ((plain_a s _).trans (plain_setFlags _ _)).trans (plain_finish _ n)

theorem plain_complementA (s : State) (n : Nat) : Plain s (complementA n s) :=
  ((plain_a s _).trans (plain_setFlags _ _)).trans (plain_finish _ n)

theorem plain_setCarry (s : State) (n : Nat) : Plain s (setCarry n s) := (plain_setFlags s _).trans (plain_finish _ n)

theorem plain_complementCarry (s : State) (n : Nat) : Plain s (complementCarry n s) := (plain_setFlags s _).trans (plain_finish _ n)

theorem plain_rotA (s : State) (op : RotOp) (n : Nat) : Plain s (rotA op n s) :=
  ((plain_a s _).trans (plain_setFlags _ _)).trans (plain_finish _ n)

theorem plain_addHl (s : State) (rr : R16) (n : Nat) : Plain s (addHl rr n s) :=
  ((plain_setHl s _).trans (plain_setFlags _ _)).trans (plain_finish _ n)

theorem plain_incR16 (s : State) (rr : R16) (n : Nat) : Plain s (incR16 rr n s) := (plain_setR16 s rr _).trans (plain_finish _ n)

theorem plain_decR16 (s : State) (rr : R16) (n : Nat) : Plain s (decR16 rr n s) := (plain_setR16 s rr _).trans (plain_finish _ n)

theorem plain_addSp (s : State) (e : Byte) (n : Nat) : Plain s (addSp e n s) :=
  ((plain_sp s _).trans (plain_setFlags _ _)).trans (plain_finish _ n)

theorem plain_ldR8R8 (s : State) (d r : R8) (n : Nat) : Plain s (ldR8R8 d r n s) :=
  ((plain_readR8 s r).trans (plain_writeR8 _ _ _)).trans (plain_finish _ n)

theorem plain_ldR8N8 (s : State) (d : R8) (v : Byte) (n : Nat) : Plain s (ldR8N8 d v n s) :=
  (plain_writeR8 s d v).trans (plain_finish _ n)

theorem plain_ldAMem (s : State) (m : R16mem) (n : Nat) : Plain s (ldAMem m n s) :=
  (((plain_busRead s _).trans (plain_a _ _)).trans (plain_bumpPtr _ m)).trans (plain_finish _ n)

theorem plain_ldMemA (s : State) (m : R16mem) (n : Nat) : Plain s (ldMemA m n s) :=
  ((plain_busWrite s _ _).trans (plain_bumpPtr _ m)).trans (plain_finish _ n)

theorem plain_ldAAddr (s : State) (x : Word) (n : Nat) : Plain s (ldAAddr x n s) :=
  ((plain_busRead s x).trans (plain_a _ _)).trans (plain_finish _ n)

theorem plain_ldAddrA (s : State) (x : Word) (n : Nat) : Plain s (ldAddrA x n s) := (plain_busWrite s x _).trans (plain_finish _ n)

theorem plain_ldR16 (s : State) (rr : R16) (v : Word) (n : Nat) : Plain s (ldR16 rr v n s) := (plain_setR16 s rr v).trans (plain_finish _ n)

theorem plain_ldAddrSp (s : State) (x : Word) (n : Nat) : Plain s (ldAddrSp x n s) :=
  ((plain_busWrite s x _).trans (plain_busWrite _ _ _)).trans (plain_finish _ n)

theorem plain_ldSpHl (s : State) (n : Nat) : Plain s (ldSpHl n s) := (plain_sp s _).trans (plain_finish _ n)

theorem plain_ldHlSpE8 (s : State) (e : Byte) (n : Nat) : Plain s (ldHlSpE8 e n s) :=
  ((plain_setHl s _).trans (plain_setFlags _ _)).trans (plain_finish _ n)

theorem plain_pushR16 (s : State) (rr : R16stk) (n : Nat) : Plain s (pushR16 rr n s) := (plain_push16 s _).trans (plain_finish _ n)

theorem plain_popR16 (s : State) (rr : R16stk) (n : Nat) : Plain s (popR16 rr n s) :=
  ((plain_pop16 s).trans (plain_setR16stk _ rr _)).trans (plain_finish _ n)

theorem plain_jumpIf (s : State) (cc : Cond) (x : Word) (m n : Nat) : Plain s (jumpIf cc x m n s) := by
  unfold jumpIf; split
  · exact plain_jump s x m
  · exact plain_finish s n

theorem plain_jumpRelIf (s : State) (cc : Cond) (e : Byte) (m n : Nat) : Plain s (jumpRelIf cc e m n s) := by
  unfold jumpRelIf; split
  · exact plain_jump s _ m
  · exact plain_finish s n

theorem plain_callIf (s : State) (cc : Cond) (x : Word) (m n : Nat) : Plain s (callIf cc x m n s) := by
  unfold callIf; split
  · exact plain_call s x m
  · exact plain_finish s n

theorem plain_retIf (s : State) (cc : Cond) (m n : Nat) : Plain s (retIf cc m n s) := by
  unfold retIf; split
  · exact plain_ret s m
  · exact plain_finish s n

theorem plain_prefixedByFields (s : State) : Plain s (prefixedByFields s) := by
  refine (plain_readImm8 s).trans ?_
  dsimp only [prefixedByFields]
  split
  · exact plain_rotR8 _ _ _ _
  · exact plain_bitR8 _ _ _ _
  · exact plain_resR8 _ _ _ _
  · exact plain_setR8 _ _ _ _

/-- Everything an accumulator operation does (R120 to R128): the read of its source, A, F and the duration. -/
theorem aluA_eq (op : AluOp) (x : AluSrc) (n : Nat) (s : State) : aluA op x n s =
    { s.aluAfter x with
      a := (alu8 op s.a (s.aluValue x) s.flagC).1
      f := (alu8 op s.a (s.aluValue x) s.flagC).2.pack
      cycles := some n } := by
  simp only [aluA, readAluSrc_eq, State.flagC, aluAfter_a, aluAfter_f]; rfl

/-- What an arm of `exec` does: it answers a next state, in which only registers, memory and the outputs of the step can differ,
unless the instruction is RETI, HALT, STOP, DI, EI or an UNUSED row. -/
theorem exec_cases (i : Instr) (s : State) : ∃ t, exec i s = .next t ∧
    (Plain s t ∨ (i = .reti ∧ t = reti 4 s) ∨ (i = .halt ∧ t = halt 1 s) ∨ (i = .di ∧ t = disableInterrupts 1 s) ∨
      (i = .ei ∧ t = armEnable 1 s) ∨ (∃ n, i = .stop n ∧ t = stop 1 s) ∨
      ∃ op, (op, i) ∈ Instr.unusedRows ∧ t = s.raise (.unusedOpcode op)) := by
  cases i
  case reti => exact ⟨_, rfl, .inr (.inl ⟨rfl, rfl⟩)⟩
  case halt => exact ⟨_, rfl, .inr (.inr (.inl ⟨rfl, rfl⟩))⟩
  case di => exact ⟨_, rfl, .inr (.inr (.inr (.inl ⟨rfl, rfl⟩)))⟩
  case ei => exact ⟨_, rfl, .inr (.inr (.inr (.inr (.inl ⟨rfl, rfl⟩))))⟩
  case stop n => exact ⟨_, rfl, .inr (.inr (.inr (.inr (.inr (.inl ⟨n, rfl, rfl⟩)))))⟩
  case jrE8 e => exact ⟨_, rfl, .inl (plain_jump _ _ _)⟩
  all_goals first
    | (refine ⟨_, rfl, .inl ?_⟩
       with_reducible first
        | apply plain_finish | apply plain_jump | apply plain_call | apply plain_ret | apply plain_rotR8 | apply
        plain_bitR8 | apply plain_resR8 | apply plain_setR8 | apply plain_aluA | apply plain_incR8 | apply plain_decR8
        | apply plain_daa | apply plain_complementA | apply plain_setCarry | apply plain_complementCarry | apply
        plain_rotA | apply plain_addHl | apply plain_incR16 | apply plain_decR16 | apply plain_addSp | apply
        plain_ldR8R8 | apply plain_ldR8N8 | apply plain_ldAMem | apply plain_ldMemA | apply plain_ldAAddr | apply
        plain_ldAddrA | apply plain_ldR16 | apply plain_ldAddrSp | apply plain_ldSpHl | apply plain_ldHlSpE8 | apply
        plain_pushR16 | apply plain_popR16 | apply plain_jumpIf | apply plain_jumpRelIf | apply plain_callIf | apply
        plain_retIf | apply plain_prefixedByFields)
    | exact ⟨_, rfl, .inr (.inr (.inr (.inr (.inr (.inr ⟨_, by decide, rfl⟩)))))⟩

/-- What an instruction leaves in ime: RETI sets it, DI clears it, no other writes it (R30, R250, R273, R274). -/
theorem exec_ime {i : Instr} {s t : State} (h : exec i s = .next t) :
    t.ime = if i = .reti then true else if i = .di then false else s.ime := by
  by_cases hr : i = .reti
  · subst hr; cases h; rfl
  by_cases hd : i = .di
  · subst hd; cases h; rfl
  rw [if_neg hr, if_neg hd]
  obtain ⟨u, hu, hc⟩ := exec_cases i s
  rw [h] at hu; cases hu
  rcases hc with p | ⟨e, -⟩ | ⟨-, rfl⟩ | ⟨e, -⟩ | ⟨-, rfl⟩ | ⟨_, -, rfl⟩ | ⟨_, -, rfl⟩
  · exact p.ime
  · exact absurd e hr
  · unfold halt; split <;> rfl
  · exact absurd e hd
  · rfl
  · unfold stop; split <;> rfl
  · rfl

/-- What an instruction leaves of the pending enable: EI arms it, DI cancels it, no other writes it (R31, R273, R274). -/
theorem exec_imePending {i : Instr} {s t : State} (h : exec i s = .next t) :
    t.imePending = if i = .ei then true else if i = .di then false else s.imePending := by
  by_cases he : i = .ei
  · subst he; cases h; rfl
  by_cases hd : i = .di
  · subst hd; cases h; rfl
  rw [if_neg he, if_neg hd]
  obtain ⟨u, hu, hc⟩ := exec_cases i s
  rw [h] at hu; cases hu
  rcases hc with p | ⟨-, rfl⟩ | ⟨-, rfl⟩ | ⟨e, -⟩ | ⟨e, -⟩ | ⟨_, -, rfl⟩ | ⟨_, -, rfl⟩
  · exact p.imePending
  · simp [reti, returnFromInterrupt]
  · unfold halt; split <;> rfl
  · exact absurd e hd
  · exact absurd e he
  · unfold stop; split <;> rfl
  · rfl

end Sys2Proof.Machine
end

