-- ==== Sys2Proof/Laws/PerInstr.lean ====
section
/-! SUPPORT. Per instruction, as syntax: its encoding is one, two or three bytes long (30_encoding.md R70). -/

/-- An instruction's encoding has at least one byte and at most three. -/
def Sys2Proof.Laws.EncodedLength.Statement (i : Sys2Proof.Instr) : Prop :=
  1 ≤ (Sys2Proof.encode i).length ∧ (Sys2Proof.encode i).length ≤ 3

namespace Sys2Proof.Laws.EncodedLength

theorem of_length (i : Instr) (n : Fin 3) (h : (encode i).length = n.val + 1) : Statement i := by
  have := n.isLt
  exact ⟨by omega, by omega⟩

theorem ldBcN16 (n : Word) : Statement (.ldBcN16 n) := of_length _ 2 rfl
theorem ldBN8 (n : Byte) : Statement (.ldBN8 n) := of_length _ 1 rfl
theorem ldAtN16Sp (n : Word) : Statement (.ldAtN16Sp n) := of_length _ 2 rfl
theorem ldCN8 (n : Byte) : Statement (.ldCN8 n) := of_length _ 1 rfl
theorem stop (n : Byte) : Statement (.stop n) := of_length _ 1 rfl
theorem ldDeN16 (n : Word) : Statement (.ldDeN16 n) := of_length _ 2 rfl
theorem ldDN8 (n : Byte) : Statement (.ldDN8 n) := of_length _ 1 rfl
theorem jrE8 (e : Byte) : Statement (.jrE8 e) := of_length _ 1 rfl
theorem ldEN8 (n : Byte) : Statement (.ldEN8 n) := of_length _ 1 rfl
theorem jrNzE8 (e : Byte) : Statement (.jrNzE8 e) := of_length _ 1 rfl
theorem ldHlN16 (n : Word) : Statement (.ldHlN16 n) := of_length _ 2 rfl
theorem ldHN8 (n : Byte) : Statement (.ldHN8 n) := of_length _ 1 rfl
theorem jrZE8 (e : Byte) : Statement (.jrZE8 e) := of_length _ 1 rfl
theorem ldLN8 (n : Byte) : Statement (.ldLN8 n) := of_length _ 1 rfl
theorem jrNcE8 (e : Byte) : Statement (.jrNcE8 e) := of_length _ 1 rfl
theorem ldSpN16 (n : Word) : Statement (.ldSpN16 n) := of_length _ 2 rfl
theorem ldAtHlN8 (n : Byte) : Statement (.ldAtHlN8 n) := of_length _ 1 rfl
theorem jrCE8 (e : Byte) : Statement (.jrCE8 e) := of_length _ 1 rfl
theorem ldAN8 (n : Byte) : Statement (.ldAN8 n) := of_length _ 1 rfl
theorem jpNzN16 (n : Word) : Statement (.jpNzN16 n) := of_length _ 2 rfl
theorem jpN16 (n : Word) : Statement (.jpN16 n) := of_length _ 2 rfl
theorem callNzN16 (n : Word) : Statement (.callNzN16 n) := of_length _ 2 rfl
theorem addAN8 (n : Byte) : Statement (.addAN8 n) := of_length _ 1 rfl
theorem jpZN16 (n : Word) : Statement (.jpZN16 n) := of_length _ 2 rfl
theorem callZN16 (n : Word) : Statement (.callZN16 n) := of_length _ 2 rfl
theorem callN16 (n : Word) : Statement (.callN16 n) := of_length _ 2 rfl
theorem adcAN8 (n : Byte) : Statement (.adcAN8 n) := of_length _ 1 rfl
theorem jpNcN16 (n : Word) : Statement (.jpNcN16 n) := of_length _ 2 rfl
theorem callNcN16 (n : Word) : Statement (.callNcN16 n) := of_length _ 2 rfl
theorem subAN8 (n : Byte) : Statement (.subAN8 n) := of_length _ 1 rfl
theorem jpCN16 (n : Word) : Statement (.jpCN16 n) := of_length _ 2 rfl
theorem callCN16 (n : Word) : Statement (.callCN16 n) := of_length _ 2 rfl
theorem sbcAN8 (n : Byte) : Statement (.sbcAN8 n) := of_length _ 1 rfl
theorem ldhAtN8A (n : Byte) : Statement (.ldhAtN8A n) := of_length _ 1 rfl
theorem andAN8 (n : Byte) : Statement (.andAN8 n) := of_length _ 1 rfl
theorem addSpE8 (e : Byte) : Statement (.addSpE8 e) := of_length _ 1 rfl
theorem ldAtN16A (n : Word) : Statement (.ldAtN16A n) := of_length _ 2 rfl
theorem xorAN8 (n : Byte) : Statement (.xorAN8 n) := of_length _ 1 rfl
theorem ldhAAtN8 (n : Byte) : Statement (.ldhAAtN8 n) := of_length _ 1 rfl
theorem orAN8 (n : Byte) : Statement (.orAN8 n) := of_length _ 1 rfl
theorem ldHlSpE8 (e : Byte) : Statement (.ldHlSpE8 e) := of_length _ 1 rfl
theorem ldAAtN16 (n : Word) : Statement (.ldAAtN16 n) := of_length _ 2 rfl
theorem cpAN8 (n : Byte) : Statement (.cpAN8 n) := of_length _ 1 rfl
theorem nop : Statement .nop := of_length _ 0 rfl
theorem ldAtBcA : Statement .ldAtBcA := of_length _ 0 rfl
theorem incBc : Statement .incBc := of_length _ 0 rfl
theorem incB : Statement .incB := of_length _ 0 rfl
theorem decB : Statement .decB := of_length _ 0 rfl
theorem rlca : Statement .rlca := of_length _ 0 rfl
theorem addHlBc : Statement .addHlBc := of_length _ 0 rfl
theorem ldAAtBc : Statement .ldAAtBc := of_length _ 0 rfl
theorem decBc : Statement .decBc := of_length _ 0 rfl
theorem incC : Statement .incC := of_length _ 0 rfl
theorem decC : Statement .decC := of_length _ 0 rfl
theorem rrca : Statement .rrca := of_length _ 0 rfl
theorem ldAtDeA : Statement .ldAtDeA := of_length _ 0 rfl
theorem incDe : Statement .incDe := of_length _ 0 rfl
theorem incD : Statement .incD := of_length _ 0 rfl
theorem decD : Statement .decD := of_length _ 0 rfl
theorem rla : Statement .rla := of_length _ 0 rfl
theorem addHlDe : Statement .addHlDe := of_length _ 0 rfl
theorem ldAAtDe : Statement .ldAAtDe := of_length _ 0 rfl
theorem decDe : Statement .decDe := of_length _ 0 rfl
theorem incE : Statement .incE := of_length _ 0 rfl
theorem decE : Statement .decE := of_length _ 0 rfl
theorem rra : Statement .rra := of_length _ 0 rfl
theorem ldAtHliA : Statement .ldAtHliA := of_length _ 0 rfl
theorem incHl : Statement .incHl := of_length _ 0 rfl
theorem incH : Statement .incH := of_length _ 0 rfl
theorem decH : Statement .decH := of_length _ 0 rfl
theorem daa : Statement .daa := of_length _ 0 rfl
theorem addHlHl : Statement .addHlHl := of_length _ 0 rfl
theorem ldAAtHli : Statement .ldAAtHli := of_length _ 0 rfl
theorem decHl : Statement .decHl := of_length _ 0 rfl
theorem incL : Statement .incL := of_length _ 0 rfl
theorem decL : Statement .decL := of_length _ 0 rfl
theorem cpl : Statement .cpl := of_length _ 0 rfl
theorem ldAtHldA : Statement .ldAtHldA := of_length _ 0 rfl
theorem incSp : Statement .incSp := of_length _ 0 rfl
theorem incAtHl : Statement .incAtHl := of_length _ 0 rfl
theorem decAtHl : Statement .decAtHl := of_length _ 0 rfl
theorem scf : Statement .scf := of_length _ 0 rfl
theorem addHlSp : Statement .addHlSp := of_length _ 0 rfl
theorem ldAAtHld : Statement .ldAAtHld := of_length _ 0 rfl
theorem decSp : Statement .decSp := of_length _ 0 rfl
theorem incA : Statement .incA := of_length _ 0 rfl
theorem decA : Statement .decA := of_length _ 0 rfl
theorem ccf : Statement .ccf := of_length _ 0 rfl
theorem ldBB : Statement .ldBB := of_length _ 0 rfl
theorem ldBC : Statement .ldBC := of_length _ 0 rfl
theorem ldBD : Statement .ldBD := of_length _ 0 rfl
theorem ldBE : Statement .ldBE := of_length _ 0 rfl
theorem ldBH : Statement .ldBH := of_length _ 0 rfl
theorem ldBL : Statement .ldBL := of_length _ 0 rfl
theorem ldBAtHl : Statement .ldBAtHl := of_length _ 0 rfl
theorem ldBA : Statement .ldBA := of_length _ 0 rfl
theorem ldCB : Statement .ldCB := of_length _ 0 rfl
theorem ldCC : Statement .ldCC := of_length _ 0 rfl
theorem ldCD : Statement .ldCD := of_length _ 0 rfl
theorem ldCE : Statement .ldCE := of_length _ 0 rfl
theorem ldCH : Statement .ldCH := of_length _ 0 rfl
theorem ldCL : Statement .ldCL := of_length _ 0 rfl
theorem ldCAtHl : Statement .ldCAtHl := of_length _ 0 rfl
theorem ldCA : Statement .ldCA := of_length _ 0 rfl
theorem ldDB : Statement .ldDB := of_length _ 0 rfl
theorem ldDC : Statement .ldDC := of_length _ 0 rfl
theorem ldDD : Statement .ldDD := of_length _ 0 rfl
theorem ldDE : Statement .ldDE := of_length _ 0 rfl
theorem ldDH : Statement .ldDH := of_length _ 0 rfl
theorem ldDL : Statement .ldDL := of_length _ 0 rfl
theorem ldDAtHl : Statement .ldDAtHl := of_length _ 0 rfl
theorem ldDA : Statement .ldDA := of_length _ 0 rfl
theorem ldEB : Statement .ldEB := of_length _ 0 rfl
theorem ldEC : Statement .ldEC := of_length _ 0 rfl
theorem ldED : Statement .ldED := of_length _ 0 rfl
theorem ldEE : Statement .ldEE := of_length _ 0 rfl
theorem ldEH : Statement .ldEH := of_length _ 0 rfl
theorem ldEL : Statement .ldEL := of_length _ 0 rfl
theorem ldEAtHl : Statement .ldEAtHl := of_length _ 0 rfl
theorem ldEA : Statement .ldEA := of_length _ 0 rfl
theorem ldHB : Statement .ldHB := of_length _ 0 rfl
theorem ldHC : Statement .ldHC := of_length _ 0 rfl
theorem ldHD : Statement .ldHD := of_length _ 0 rfl
theorem ldHE : Statement .ldHE := of_length _ 0 rfl
theorem ldHH : Statement .ldHH := of_length _ 0 rfl
theorem ldHL : Statement .ldHL := of_length _ 0 rfl
theorem ldHAtHl : Statement .ldHAtHl := of_length _ 0 rfl
theorem ldHA : Statement .ldHA := of_length _ 0 rfl
theorem ldLB : Statement .ldLB := of_length _ 0 rfl
theorem ldLC : Statement .ldLC := of_length _ 0 rfl
theorem ldLD : Statement .ldLD := of_length _ 0 rfl
theorem ldLE : Statement .ldLE := of_length _ 0 rfl
theorem ldLH : Statement .ldLH := of_length _ 0 rfl
theorem ldLL : Statement .ldLL := of_length _ 0 rfl
theorem ldLAtHl : Statement .ldLAtHl := of_length _ 0 rfl
theorem ldLA : Statement .ldLA := of_length _ 0 rfl
theorem ldAtHlB : Statement .ldAtHlB := of_length _ 0 rfl
theorem ldAtHlC : Statement .ldAtHlC := of_length _ 0 rfl
theorem ldAtHlD : Statement .ldAtHlD := of_length _ 0 rfl
theorem ldAtHlE : Statement .ldAtHlE := of_length _ 0 rfl
theorem ldAtHlH : Statement .ldAtHlH := of_length _ 0 rfl
theorem ldAtHlL : Statement .ldAtHlL := of_length _ 0 rfl
theorem halt : Statement .halt := of_length _ 0 rfl
theorem ldAtHlA : Statement .ldAtHlA := of_length _ 0 rfl
theorem ldAB : Statement .ldAB := of_length _ 0 rfl
theorem ldAC : Statement .ldAC := of_length _ 0 rfl
theorem ldAD : Statement .ldAD := of_length _ 0 rfl
theorem ldAE : Statement .ldAE := of_length _ 0 rfl
theorem ldAH : Statement .ldAH := of_length _ 0 rfl
theorem ldAL : Statement .ldAL := of_length _ 0 rfl
theorem ldAAtHl : Statement .ldAAtHl := of_length _ 0 rfl
theorem ldAA : Statement .ldAA := of_length _ 0 rfl
theorem addAB : Statement .addAB := of_length _ 0 rfl
theorem addAC : Statement .addAC := of_length _ 0 rfl
theorem addAD : Statement .addAD := of_length _ 0 rfl
theorem addAE : Statement .addAE := of_length _ 0 rfl
theorem addAH : Statement .addAH := of_length _ 0 rfl
theorem addAL : Statement .addAL := of_length _ 0 rfl
theorem addAAtHl : Statement .addAAtHl := of_length _ 0 rfl
theorem addAA : Statement .addAA := of_length _ 0 rfl
theorem adcAB : Statement .adcAB := of_length _ 0 rfl
theorem adcAC : Statement .adcAC := of_length _ 0 rfl
theorem adcAD : Statement .adcAD := of_length _ 0 rfl
theorem adcAE : Statement .adcAE := of_length _ 0 rfl
theorem adcAH : Statement .adcAH := of_length _ 0 rfl
theorem adcAL : Statement .adcAL := of_length _ 0 rfl
theorem adcAAtHl : Statement .adcAAtHl := of_length _ 0 rfl
theorem adcAA : Statement .adcAA := of_length _ 0 rfl
theorem subAB : Statement .subAB := of_length _ 0 rfl
theorem subAC : Statement .subAC := of_length _ 0 rfl
theorem subAD : Statement .subAD := of_length _ 0 rfl
theorem subAE : Statement .subAE := of_length _ 0 rfl
theorem subAH : Statement .subAH := of_length _ 0 rfl
theorem subAL : Statement .subAL := of_length _ 0 rfl
theorem subAAtHl : Statement .subAAtHl := of_length _ 0 rfl
theorem subAA : Statement .subAA := of_length _ 0 rfl
theorem sbcAB : Statement .sbcAB := of_length _ 0 rfl
theorem sbcAC : Statement .sbcAC := of_length _ 0 rfl
theorem sbcAD : Statement .sbcAD := of_length _ 0 rfl
theorem sbcAE : Statement .sbcAE := of_length _ 0 rfl
theorem sbcAH : Statement .sbcAH := of_length _ 0 rfl
theorem sbcAL : Statement .sbcAL := of_length _ 0 rfl
theorem sbcAAtHl : Statement .sbcAAtHl := of_length _ 0 rfl
theorem sbcAA : Statement .sbcAA := of_length _ 0 rfl
theorem andAB : Statement .andAB := of_length _ 0 rfl
theorem andAC : Statement .andAC := of_length _ 0 rfl
theorem andAD : Statement .andAD := of_length _ 0 rfl
theorem andAE : Statement .andAE := of_length _ 0 rfl
theorem andAH : Statement .andAH := of_length _ 0 rfl
theorem andAL : Statement .andAL := of_length _ 0 rfl
theorem andAAtHl : Statement .andAAtHl := of_length _ 0 rfl
theorem andAA : Statement .andAA := of_length _ 0 rfl
theorem xorAB : Statement .xorAB := of_length _ 0 rfl
theorem xorAC : Statement .xorAC := of_length _ 0 rfl
theorem xorAD : Statement .xorAD := of_length _ 0 rfl
theorem xorAE : Statement .xorAE := of_length _ 0 rfl
theorem xorAH : Statement .xorAH := of_length _ 0 rfl
theorem xorAL : Statement .xorAL := of_length _ 0 rfl
theorem xorAAtHl : Statement .xorAAtHl := of_length _ 0 rfl
theorem xorAA : Statement .xorAA := of_length _ 0 rfl
theorem orAB : Statement .orAB := of_length _ 0 rfl
theorem orAC : Statement .orAC := of_length _ 0 rfl
theorem orAD : Statement .orAD := of_length _ 0 rfl
theorem orAE : Statement .orAE := of_length _ 0 rfl
theorem orAH : Statement .orAH := of_length _ 0 rfl
theorem orAL : Statement .orAL := of_length _ 0 rfl
theorem orAAtHl : Statement .orAAtHl := of_length _ 0 rfl
theorem orAA : Statement .orAA := of_length _ 0 rfl
theorem cpAB : Statement .cpAB := of_length _ 0 rfl
theorem cpAC : Statement .cpAC := of_length _ 0 rfl
theorem cpAD : Statement .cpAD := of_length _ 0 rfl
theorem cpAE : Statement .cpAE := of_length _ 0 rfl
theorem cpAH : Statement .cpAH := of_length _ 0 rfl
theorem cpAL : Statement .cpAL := of_length _ 0 rfl
theorem cpAAtHl : Statement .cpAAtHl := of_length _ 0 rfl
theorem cpAA : Statement .cpAA := of_length _ 0 rfl
theorem retNz : Statement .retNz := of_length _ 0 rfl
theorem popBc : Statement .popBc := of_length _ 0 rfl
theorem pushBc : Statement .pushBc := of_length _ 0 rfl
theorem rst00 : Statement .rst00 := of_length _ 0 rfl
theorem retZ : Statement .retZ := of_length _ 0 rfl
theorem ret : Statement .ret := of_length _ 0 rfl
theorem prefixCb : Statement .prefixCb := of_length _ 0 rfl
theorem rst08 : Statement .rst08 := of_length _ 0 rfl
theorem retNc : Statement .retNc := of_length _ 0 rfl
theorem popDe : Statement .popDe := of_length _ 0 rfl
theorem unusedD3 : Statement .unusedD3 := of_length _ 0 rfl
theorem pushDe : Statement .pushDe := of_length _ 0 rfl
theorem rst10 : Statement .rst10 := of_length _ 0 rfl
theorem retC : Statement .retC := of_length _ 0 rfl
theorem reti : Statement .reti := of_length _ 0 rfl
theorem unusedDB : Statement .unusedDB := of_length _ 0 rfl
theorem unusedDD : Statement .unusedDD := of_length _ 0 rfl
theorem rst18 : Statement .rst18 := of_length _ 0 rfl
theorem popHl : Statement .popHl := of_length _ 0 rfl
theorem ldhAtCA : Statement .ldhAtCA := of_length _ 0 rfl
theorem unusedE3 : Statement .unusedE3 := of_length _ 0 rfl
theorem unusedE4 : Statement .unusedE4 := of_length _ 0 rfl
theorem pushHl : Statement .pushHl := of_length _ 0 rfl
theorem rst20 : Statement .rst20 := of_length _ 0 rfl
theorem jpHl : Statement .jpHl := of_length _ 0 rfl
theorem unusedEB : Statement .unusedEB := of_length _ 0 rfl
theorem unusedEC : Statement .unusedEC := of_length _ 0 rfl
theorem unusedED : Statement .unusedED := of_length _ 0 rfl
theorem rst28 : Statement .rst28 := of_length _ 0 rfl
theorem popAf : Statement .popAf := of_length _ 0 rfl
theorem ldhAAtC : Statement .ldhAAtC := of_length _ 0 rfl
theorem di : Statement .di := of_length _ 0 rfl
theorem unusedF4 : Statement .unusedF4 := of_length _ 0 rfl
theorem pushAf : Statement .pushAf := of_length _ 0 rfl
theorem rst30 : Statement .rst30 := of_length _ 0 rfl
theorem ldSpHl : Statement .ldSpHl := of_length _ 0 rfl
theorem ei : Statement .ei := of_length _ 0 rfl
theorem unusedFC : Statement .unusedFC := of_length _ 0 rfl
theorem unusedFD : Statement .unusedFD := of_length _ 0 rfl
theorem rst38 : Statement .rst38 := of_length _ 0 rfl
theorem rlcB : Statement .rlcB := of_length _ 1 rfl
theorem rlcC : Statement .rlcC := of_length _ 1 rfl
theorem rlcD : Statement .rlcD := of_length _ 1 rfl
theorem rlcE : Statement .rlcE := of_length _ 1 rfl
theorem rlcH : Statement .rlcH := of_length _ 1 rfl
theorem rlcL : Statement .rlcL := of_length _ 1 rfl
theorem rlcAtHl : Statement .rlcAtHl := of_length _ 1 rfl
theorem rlcA : Statement .rlcA := of_length _ 1 rfl
theorem rrcB : Statement .rrcB := of_length _ 1 rfl
theorem rrcC : Statement .rrcC := of_length _ 1 rfl
theorem rrcD : Statement .rrcD := of_length _ 1 rfl
theorem rrcE : Statement .rrcE := of_length _ 1 rfl
theorem rrcH : Statement .rrcH := of_length _ 1 rfl
theorem rrcL : Statement .rrcL := of_length _ 1 rfl
theorem rrcAtHl : Statement .rrcAtHl := of_length _ 1 rfl
theorem rrcA : Statement .rrcA := of_length _ 1 rfl
theorem rlB : Statement .rlB := of_length _ 1 rfl
theorem rlC : Statement .rlC := of_length _ 1 rfl
theorem rlD : Statement .rlD := of_length _ 1 rfl
theorem rlE : Statement .rlE := of_length _ 1 rfl
theorem rlH : Statement .rlH := of_length _ 1 rfl
theorem rlL : Statement .rlL := of_length _ 1 rfl
theorem rlAtHl : Statement .rlAtHl := of_length _ 1 rfl
theorem rlA : Statement .rlA := of_length _ 1 rfl
theorem rrB : Statement .rrB := of_length _ 1 rfl
theorem rrC : Statement .rrC := of_length _ 1 rfl
theorem rrD : Statement .rrD := of_length _ 1 rfl
theorem rrE : Statement .rrE := of_length _ 1 rfl
theorem rrH : Statement .rrH := of_length _ 1 rfl
theorem rrL : Statement .rrL := of_length _ 1 rfl
theorem rrAtHl : Statement .rrAtHl := of_length _ 1 rfl
theorem rrA : Statement .rrA := of_length _ 1 rfl
theorem slaB : Statement .slaB := of_length _ 1 rfl
theorem slaC : Statement .slaC := of_length _ 1 rfl
theorem slaD : Statement .slaD := of_length _ 1 rfl
theorem slaE : Statement .slaE := of_length _ 1 rfl
theorem slaH : Statement .slaH := of_length _ 1 rfl
theorem slaL : Statement .slaL := of_length _ 1 rfl
theorem slaAtHl : Statement .slaAtHl := of_length _ 1 rfl
theorem slaA : Statement .slaA := of_length _ 1 rfl
theorem sraB : Statement .sraB := of_length _ 1 rfl
theorem sraC : Statement .sraC := of_length _ 1 rfl
theorem sraD : Statement .sraD := of_length _ 1 rfl
theorem sraE : Statement .sraE := of_length _ 1 rfl
theorem sraH : Statement .sraH := of_length _ 1 rfl
theorem sraL : Statement .sraL := of_length _ 1 rfl
theorem sraAtHl : Statement .sraAtHl := of_length _ 1 rfl
theorem sraA : Statement .sraA := of_length _ 1 rfl
theorem swapB : Statement .swapB := of_length _ 1 rfl
theorem swapC : Statement .swapC := of_length _ 1 rfl
theorem swapD : Statement .swapD := of_length _ 1 rfl
theorem swapE : Statement .swapE := of_length _ 1 rfl
theorem swapH : Statement .swapH := of_length _ 1 rfl
theorem swapL : Statement .swapL := of_length _ 1 rfl
theorem swapAtHl : Statement .swapAtHl := of_length _ 1 rfl
theorem swapA : Statement .swapA := of_length _ 1 rfl
theorem srlB : Statement .srlB := of_length _ 1 rfl
theorem srlC : Statement .srlC := of_length _ 1 rfl
theorem srlD : Statement .srlD := of_length _ 1 rfl
theorem srlE : Statement .srlE := of_length _ 1 rfl
theorem srlH : Statement .srlH := of_length _ 1 rfl
theorem srlL : Statement .srlL := of_length _ 1 rfl
theorem srlAtHl : Statement .srlAtHl := of_length _ 1 rfl
theorem srlA : Statement .srlA := of_length _ 1 rfl
theorem bit0B : Statement .bit0B := of_length _ 1 rfl
theorem bit0C : Statement .bit0C := of_length _ 1 rfl
theorem bit0D : Statement .bit0D := of_length _ 1 rfl
theorem bit0E : Statement .bit0E := of_length _ 1 rfl
theorem bit0H : Statement .bit0H := of_length _ 1 rfl
theorem bit0L : Statement .bit0L := of_length _ 1 rfl
theorem bit0AtHl : Statement .bit0AtHl := of_length _ 1 rfl
theorem bit0A : Statement .bit0A := of_length _ 1 rfl
theorem bit1B : Statement .bit1B := of_length _ 1 rfl
theorem bit1C : Statement .bit1C := of_length _ 1 rfl
theorem bit1D : Statement .bit1D := of_length _ 1 rfl
theorem bit1E : Statement .bit1E := of_length _ 1 rfl
theorem bit1H : Statement .bit1H := of_length _ 1 rfl
theorem bit1L : Statement .bit1L := of_length _ 1 rfl
theorem bit1AtHl : Statement .bit1AtHl := of_length _ 1 rfl
theorem bit1A : Statement .bit1A := of_length _ 1 rfl
theorem bit2B : Statement .bit2B := of_length _ 1 rfl
theorem bit2C : Statement .bit2C := of_length _ 1 rfl
theorem bit2D : Statement .bit2D := of_length _ 1 rfl
theorem bit2E : Statement .bit2E := of_length _ 1 rfl
theorem bit2H : Statement .bit2H := of_length _ 1 rfl
theorem bit2L : Statement .bit2L := of_length _ 1 rfl
theorem bit2AtHl : Statement .bit2AtHl := of_length _ 1 rfl
theorem bit2A : Statement .bit2A := of_length _ 1 rfl
theorem bit3B : Statement .bit3B := of_length _ 1 rfl
theorem bit3C : Statement .bit3C := of_length _ 1 rfl
theorem bit3D : Statement .bit3D := of_length _ 1 rfl
theorem bit3E : Statement .bit3E := of_length _ 1 rfl
theorem bit3H : Statement .bit3H := of_length _ 1 rfl
theorem bit3L : Statement .bit3L := of_length _ 1 rfl
theorem bit3AtHl : Statement .bit3AtHl := of_length _ 1 rfl
theorem bit3A : Statement .bit3A := of_length _ 1 rfl
theorem bit4B : Statement .bit4B := of_length _ 1 rfl
theorem bit4C : Statement .bit4C := of_length _ 1 rfl
theorem bit4D : Statement .bit4D := of_length _ 1 rfl
theorem bit4E : Statement .bit4E := of_length _ 1 rfl
theorem bit4H : Statement .bit4H := of_length _ 1 rfl
theorem bit4L : Statement .bit4L := of_length _ 1 rfl
theorem bit4AtHl : Statement .bit4AtHl := of_length _ 1 rfl
theorem bit4A : Statement .bit4A := of_length _ 1 rfl
theorem bit5B : Statement .bit5B := of_length _ 1 rfl
theorem bit5C : Statement .bit5C := of_length _ 1 rfl
theorem bit5D : Statement .bit5D := of_length _ 1 rfl
theorem bit5E : Statement .bit5E := of_length _ 1 rfl
theorem bit5H : Statement .bit5H := of_length _ 1 rfl
theorem bit5L : Statement .bit5L := of_length _ 1 rfl
theorem bit5AtHl : Statement .bit5AtHl := of_length _ 1 rfl
theorem bit5A : Statement .bit5A := of_length _ 1 rfl
theorem bit6B : Statement .bit6B := of_length _ 1 rfl
theorem bit6C : Statement .bit6C := of_length _ 1 rfl
theorem bit6D : Statement .bit6D := of_length _ 1 rfl
theorem bit6E : Statement .bit6E := of_length _ 1 rfl
theorem bit6H : Statement .bit6H := of_length _ 1 rfl
theorem bit6L : Statement .bit6L := of_length _ 1 rfl
theorem bit6AtHl : Statement .bit6AtHl := of_length _ 1 rfl
theorem bit6A : Statement .bit6A := of_length _ 1 rfl
theorem bit7B : Statement .bit7B := of_length _ 1 rfl
theorem bit7C : Statement .bit7C := of_length _ 1 rfl
theorem bit7D : Statement .bit7D := of_length _ 1 rfl
theorem bit7E : Statement .bit7E := of_length _ 1 rfl
theorem bit7H : Statement .bit7H := of_length _ 1 rfl
theorem bit7L : Statement .bit7L := of_length _ 1 rfl
theorem bit7AtHl : Statement .bit7AtHl := of_length _ 1 rfl
theorem bit7A : Statement .bit7A := of_length _ 1 rfl
theorem res0B : Statement .res0B := of_length _ 1 rfl
theorem res0C : Statement .res0C := of_length _ 1 rfl
theorem res0D : Statement .res0D := of_length _ 1 rfl
theorem res0E : Statement .res0E := of_length _ 1 rfl
theorem res0H : Statement .res0H := of_length _ 1 rfl
theorem res0L : Statement .res0L := of_length _ 1 rfl
theorem res0AtHl : Statement .res0AtHl := of_length _ 1 rfl
theorem res0A : Statement .res0A := of_length _ 1 rfl
theorem res1B : Statement .res1B := of_length _ 1 rfl
theorem res1C : Statement .res1C := of_length _ 1 rfl
theorem res1D : Statement .res1D := of_length _ 1 rfl
theorem res1E : Statement .res1E := of_length _ 1 rfl
theorem res1H : Statement .res1H := of_length _ 1 rfl
theorem res1L : Statement .res1L := of_length _ 1 rfl
theorem res1AtHl : Statement .res1AtHl := of_length _ 1 rfl
theorem res1A : Statement .res1A := of_length _ 1 rfl
theorem res2B : Statement .res2B := of_length _ 1 rfl
theorem res2C : Statement .res2C := of_length _ 1 rfl
theorem res2D : Statement .res2D := of_length _ 1 rfl
theorem res2E : Statement .res2E := of_length _ 1 rfl
theorem res2H : Statement .res2H := of_length _ 1 rfl
theorem res2L : Statement .res2L := of_length _ 1 rfl
theorem res2AtHl : Statement .res2AtHl := of_length _ 1 rfl
theorem res2A : Statement .res2A := of_length _ 1 rfl
theorem res3B : Statement .res3B := of_length _ 1 rfl
theorem res3C : Statement .res3C := of_length _ 1 rfl
theorem res3D : Statement .res3D := of_length _ 1 rfl
theorem res3E : Statement .res3E := of_length _ 1 rfl
theorem res3H : Statement .res3H := of_length _ 1 rfl
theorem res3L : Statement .res3L := of_length _ 1 rfl
theorem res3AtHl : Statement .res3AtHl := of_length _ 1 rfl
theorem res3A : Statement .res3A := of_length _ 1 rfl
theorem res4B : Statement .res4B := of_length _ 1 rfl
theorem res4C : Statement .res4C := of_length _ 1 rfl
theorem res4D : Statement .res4D := of_length _ 1 rfl
theorem res4E : Statement .res4E := of_length _ 1 rfl
theorem res4H : Statement .res4H := of_length _ 1 rfl
theorem res4L : Statement .res4L := of_length _ 1 rfl
theorem res4AtHl : Statement .res4AtHl := of_length _ 1 rfl
theorem res4A : Statement .res4A := of_length _ 1 rfl
theorem res5B : Statement .res5B := of_length _ 1 rfl
theorem res5C : Statement .res5C := of_length _ 1 rfl
theorem res5D : Statement .res5D := of_length _ 1 rfl
theorem res5E : Statement .res5E := of_length _ 1 rfl
theorem res5H : Statement .res5H := of_length _ 1 rfl
theorem res5L : Statement .res5L := of_length _ 1 rfl
theorem res5AtHl : Statement .res5AtHl := of_length _ 1 rfl
theorem res5A : Statement .res5A := of_length _ 1 rfl
theorem res6B : Statement .res6B := of_length _ 1 rfl
theorem res6C : Statement .res6C := of_length _ 1 rfl
theorem res6D : Statement .res6D := of_length _ 1 rfl
theorem res6E : Statement .res6E := of_length _ 1 rfl
theorem res6H : Statement .res6H := of_length _ 1 rfl
theorem res6L : Statement .res6L := of_length _ 1 rfl
theorem res6AtHl : Statement .res6AtHl := of_length _ 1 rfl
theorem res6A : Statement .res6A := of_length _ 1 rfl
theorem res7B : Statement .res7B := of_length _ 1 rfl
theorem res7C : Statement .res7C := of_length _ 1 rfl
theorem res7D : Statement .res7D := of_length _ 1 rfl
theorem res7E : Statement .res7E := of_length _ 1 rfl
theorem res7H : Statement .res7H := of_length _ 1 rfl
theorem res7L : Statement .res7L := of_length _ 1 rfl
theorem res7AtHl : Statement .res7AtHl := of_length _ 1 rfl
theorem res7A : Statement .res7A := of_length _ 1 rfl
theorem set0B : Statement .set0B := of_length _ 1 rfl
theorem set0C : Statement .set0C := of_length _ 1 rfl
theorem set0D : Statement .set0D := of_length _ 1 rfl
theorem set0E : Statement .set0E := of_length _ 1 rfl
theorem set0H : Statement .set0H := of_length _ 1 rfl
theorem set0L : Statement .set0L := of_length _ 1 rfl
theorem set0AtHl : Statement .set0AtHl := of_length _ 1 rfl
theorem set0A : Statement .set0A := of_length _ 1 rfl
theorem set1B : Statement .set1B := of_length _ 1 rfl
theorem set1C : Statement .set1C := of_length _ 1 rfl
theorem set1D : Statement .set1D := of_length _ 1 rfl
theorem set1E : Statement .set1E := of_length _ 1 rfl
theorem set1H : Statement .set1H := of_length _ 1 rfl
theorem set1L : Statement .set1L := of_length _ 1 rfl
theorem set1AtHl : Statement .set1AtHl := of_length _ 1 rfl
theorem set1A : Statement .set1A := of_length _ 1 rfl
theorem set2B : Statement .set2B := of_length _ 1 rfl
theorem set2C : Statement .set2C := of_length _ 1 rfl
theorem set2D : Statement .set2D := of_length _ 1 rfl
theorem set2E : Statement .set2E := of_length _ 1 rfl
theorem set2H : Statement .set2H := of_length _ 1 rfl
theorem set2L : Statement .set2L := of_length _ 1 rfl
theorem set2AtHl : Statement .set2AtHl := of_length _ 1 rfl
theorem set2A : Statement .set2A := of_length _ 1 rfl
theorem set3B : Statement .set3B := of_length _ 1 rfl
theorem set3C : Statement .set3C := of_length _ 1 rfl
theorem set3D : Statement .set3D := of_length _ 1 rfl
theorem set3E : Statement .set3E := of_length _ 1 rfl
theorem set3H : Statement .set3H := of_length _ 1 rfl
theorem set3L : Statement .set3L := of_length _ 1 rfl
theorem set3AtHl : Statement .set3AtHl := of_length _ 1 rfl
theorem set3A : Statement .set3A := of_length _ 1 rfl
theorem set4B : Statement .set4B := of_length _ 1 rfl
theorem set4C : Statement .set4C := of_length _ 1 rfl
theorem set4D : Statement .set4D := of_length _ 1 rfl
theorem set4E : Statement .set4E := of_length _ 1 rfl
theorem set4H : Statement .set4H := of_length _ 1 rfl
theorem set4L : Statement .set4L := of_length _ 1 rfl
theorem set4AtHl : Statement .set4AtHl := of_length _ 1 rfl
theorem set4A : Statement .set4A := of_length _ 1 rfl
theorem set5B : Statement .set5B := of_length _ 1 rfl
theorem set5C : Statement .set5C := of_length _ 1 rfl
theorem set5D : Statement .set5D := of_length _ 1 rfl
theorem set5E : Statement .set5E := of_length _ 1 rfl
theorem set5H : Statement .set5H := of_length _ 1 rfl
theorem set5L : Statement .set5L := of_length _ 1 rfl
theorem set5AtHl : Statement .set5AtHl := of_length _ 1 rfl
theorem set5A : Statement .set5A := of_length _ 1 rfl
theorem set6B : Statement .set6B := of_length _ 1 rfl
theorem set6C : Statement .set6C := of_length _ 1 rfl
theorem set6D : Statement .set6D := of_length _ 1 rfl
theorem set6E : Statement .set6E := of_length _ 1 rfl
theorem set6H : Statement .set6H := of_length _ 1 rfl
theorem set6L : Statement .set6L := of_length _ 1 rfl
theorem set6AtHl : Statement .set6AtHl := of_length _ 1 rfl
theorem set6A : Statement .set6A := of_length _ 1 rfl
theorem set7B : Statement .set7B := of_length _ 1 rfl
theorem set7C : Statement .set7C := of_length _ 1 rfl
theorem set7D : Statement .set7D := of_length _ 1 rfl
theorem set7E : Statement .set7E := of_length _ 1 rfl
theorem set7H : Statement .set7H := of_length _ 1 rfl
theorem set7L : Statement .set7L := of_length _ 1 rfl
theorem set7AtHl : Statement .set7AtHl := of_length _ 1 rfl
theorem set7A : Statement .set7A := of_length _ 1 rfl

end Sys2Proof.Laws.EncodedLength
end

