-- ==== Sys2Proof/Laws/Step.lean ====
section
/-! SUPPORT. What a step can do, said once: the environment's part, the fetch, the interrupt service, and the inversion of `step`. -/

namespace Sys2Proof.Machine

/-- The environment changes IF, IE, memory and what the peripherals hold only (R306). -/
theorem applyEnv_eq (s : State) (x : EnvAction) : applyEnv s x = s.withEnv (applyEnv s x).busEnv := by cases x <;> rfl

theorem plain_applyEnv (s : State) (x : EnvAction) : Plain s (applyEnv s x) := by
  cases x with
  | setByte addr v =>
    exact plain_withEnv s _ (envStore_ifTop s.params s.busEnv addr v) (envStore_ieTop s.params s.busEnv addr v)
      (envStore_wf s.params s.busEnv addr v)
  | request k => exact plain_withEnv s ⟨s.mem, s.device, _, s.ieReg⟩ (fun _ => irqBits_top _) id id
  | setIf v => exact plain_withEnv s ⟨s.mem, s.device, _, s.ieReg⟩ (fun _ => irqBits_top _) id id
  | setIe v => exact plain_withEnv s ⟨s.mem, s.device, s.ifReg, _⟩ id (fun _ => irqBits_top _) id
  | setDevice d => exact plain_withEnv s ⟨s.mem, d, s.ifReg, s.ieReg⟩ id id id

theorem foldl_applyEnv_eq (batch : List EnvAction) (s : State) :
    batch.foldl applyEnv s = s.withEnv (batch.foldl applyEnv s).busEnv := by
  induction batch generalizing s with
  | nil => rfl
  | cons x batch ih => simp only [List.foldl_cons]; rw [ih (applyEnv s x), applyEnv_eq s x]; rfl

theorem plain_foldl_applyEnv (batch : List EnvAction) (s : State) : Plain s (batch.foldl applyEnv s) := by
  induction batch generalizing s with
  | nil => exact plain_of_eq ⟨rfl, rfl, rfl, rfl, rfl, rfl, rfl⟩ id rfl rfl rfl
  | cons x batch ih => exact (plain_applyEnv s x).trans (ih _)

/-- The part of a step before the core's (log 6): IF, IE, memory and the peripherals are the environment's to change, one batch of
its plan is consumed, the outputs are cleared, and nothing else changes. -/
theorem beginStep_eq (s : State) : s.beginStep =
    { s with
      ifReg := s.beginStep.ifReg
      ieReg := s.beginStep.ieReg
      mem := s.beginStep.mem
      device := s.beginStep.device
      schedule := s.schedule.tail
      cycles := none
      bus := [] } := by
  unfold State.beginStep
  rcases h : s.schedule with _ | ⟨batch, rest⟩
  · simp only [h, List.tail_nil]
  · simp only [List.tail_cons]
    rw [foldl_applyEnv_eq]; rfl

/-- With no action of the environment to come, only the outputs are cleared. -/
theorem beginStep_of_nil {s : State} (h : s.schedule = []) : s.beginStep = { s with cycles := none, bus := [] } := by
  simp [State.beginStep, h]

@[simp] theorem beginStep_f (s : State) : s.beginStep.f = s.f := by rw [beginStep_eq]
@[simp] theorem beginStep_sp (s : State) : s.beginStep.sp = s.sp := by rw [beginStep_eq]
@[simp] theorem beginStep_pc (s : State) : s.beginStep.pc = s.pc := by rw [beginStep_eq]
@[simp] theorem beginStep_halted (s : State) : s.beginStep.halted = s.halted := by rw [beginStep_eq]
@[simp] theorem beginStep_ime (s : State) : s.beginStep.ime = s.ime := by rw [beginStep_eq]
@[simp] theorem beginStep_imePending (s : State) : s.beginStep.imePending = s.imePending := by rw [beginStep_eq]
@[simp] theorem beginStep_haltBug (s : State) : s.beginStep.haltBug = s.haltBug := by rw [beginStep_eq]
@[simp] theorem beginStep_fault (s : State) : s.beginStep.fault = s.fault := by rw [beginStep_eq]
@[simp] theorem beginStep_params (s : State) : s.beginStep.params = s.params := by rw [beginStep_eq]
@[simp] theorem beginStep_schedule (s : State) : s.beginStep.schedule = s.schedule.tail := by rw [beginStep_eq]
@[simp] theorem beginStep_cycles (s : State) : s.beginStep.cycles = none := rfl
@[simp] theorem beginStep_bus (s : State) : s.beginStep.bus = [] := rfl
@[simp] theorem beginStep_reg (s : State) (r : Reg) : s.beginStep.reg r = s.reg r := by rw [beginStep_eq]; rfl

/-- The environment keeps the parts of the invariant that it can touch. -/
theorem beginStep_sound (s : State) :
    (s.ifReg &&& 0xE0#8 = 0#8 → s.beginStep.ifReg &&& 0xE0#8 = 0#8) ∧
    (s.ieReg &&& 0xE0#8 = 0#8 → s.beginStep.ieReg &&& 0xE0#8 = 0#8) ∧ (s.mem.wf = true → s.beginStep.mem.wf = true) := by
  unfold State.beginStep
  rcases h : s.schedule with _ | ⟨batch, rest⟩
  · exact ⟨id, id, id⟩
  · have p := plain_foldl_applyEnv batch { s with schedule := rest }
    exact ⟨p.ifTop, p.ieTop, p.memory⟩

theorem applyEnv_halted (s : State) (b : Bool) (x : EnvAction) :
    applyEnv { s with halted := b } x = { applyEnv s x with halted := b } := by cases x <;> rfl

theorem foldl_applyEnv_halted (batch : List EnvAction) (s : State) (b : Bool) :
    batch.foldl applyEnv { s with halted := b } = { batch.foldl applyEnv s with halted := b } := by
  induction batch generalizing s with
  | nil => rfl
  | cons x batch ih => simp only [List.foldl_cons]; rw [applyEnv_halted, ih]

/-- What the environment does does not depend on whether the core is halted. -/
theorem beginStep_setHalted (s : State) (b : Bool) :
    State.beginStep { s with halted := b } = { s.beginStep with halted := b } := by
  rcases h : s.schedule with _ | ⟨batch, rest⟩
  · simp only [State.beginStep, h]
  · simp only [State.beginStep, h]
    rw [foldl_applyEnv_halted batch { s with schedule := rest }]

/-- A state with nothing in the way of fetching and running an instruction. -/
theorem runs_of_plain {s : State} (hf : s.fault = none) (hh : s.halted = false)
    (hi : s.ime = false) : s.runs := by
  refine ⟨hf, fun h => ?_, fun h => ?_⟩
  · have := h.1; rw [beginStep_halted, hh] at this; cases this
  · have := h.1; rw [beginStep_ime, hi] at this; cases this

/-- Such a state is awake as it is, but for the outputs of the last step. -/
theorem awake_of_plain {s : State} (hs : s.schedule = []) (hh : s.halted = false) :
    s.awake = { s with cycles := none, bus := [] } := by
  rw [State.awake, beginStep_of_nil hs, ← hh]

/-- The opcode fetch (R105). -/
theorem fetchOpcode_eq (s : State) : fetchOpcode s = ((busRead s.pc s).1,
    { (busRead s.pc s).2 with haltBug := false, pc := if s.haltBug then s.pc else s.pc + 1#16 }) := by
  simp only [fetchOpcode, busRead_haltBug, busRead_pc]
  rcases Bool.eq_false_or_eq_true s.haltBug with h | h <;> simp only [h, if_true, if_false, Bool.false_eq_true]

/-- Bus reads change memory, what the peripherals hold and the bus log only (R51). -/
theorem readAll_eq (l : List Word) (s : State) : (readAll l s).2 =
    { s with mem := (readAll l s).2.mem, device := (readAll l s).2.device, bus := (readAll l s).2.bus } := by
  induction l generalizing s with
  | nil => rfl
  | cons a l ih => simp only [readAll]; rw [ih, busRead_eq]

theorem readAll_wf (l : List Word) (s : State) (h : s.mem.wf = true) : (readAll l s).2.mem.wf = true := by
  induction l generalizing s with
  | nil => exact h
  | cons a l ih => exact ih _ (busRead_wf s a h)

/-- Under `RamBus` bus reads answer the bytes at their addresses, and leave all but the bus log (R52). -/
theorem readAll_ram (l : List Word) {s : State} (h : s.params.bus = .ram) :
    readAll l s = (l.map s.peek, { s with bus := s.bus ++ l.map fun a => .read a (s.peek a) }) := by
  induction l generalizing s with
  | nil => simp [readAll]
  | cons a l ih =>
    simp only [readAll, busRead_ram h]
    rw [ih (by exact h)]
    simp only [List.map_cons, List.append_assoc]; rfl

/-- The fetch of an instruction (R105, R106, R109): for the number of bytes it has, it answers what the decoder reads from the bytes
that as many bus reads answer, and leaves the state in which the instruction runs. -/
theorem fetchInstr_eq (s : State) : ∃ n : Nat, 1 ≤ n ∧ n ≤ 3 ∧
    decode (readAll (s.fetchAddrs.take n) s).1 = .ok ((fetchInstr s).1, []) ∧ (fetchInstr s).2 = s.fetched n := by
  have h0 : ∀ p : Word, p + BitVec.ofNat 16 0 = p := fun p => by bv_omega
  have h11 : ∀ p : Word, p + 1#16 + 1#16 = p + 2#16 := fun p => by bv_omega
  cases hslot : (unprefixedDescriptor (busRead s.pc s).1).slot with
  | op i =>
    refine ⟨1, by decide, by decide, ?_, ?_⟩ <;>
      simp only [State.fetched, State.fetchAddrs, List.take, readAll, decode, fetchInstr, fetchOpcode_eq, hslot, Nat.sub_self, h0]
  | imm8 mk =>
    refine ⟨2, by decide, by decide, ?_, ?_⟩ <;>
      simp only [State.fetched, State.fetchAddrs, List.take, readAll, decode, fetchInstr, fetchOpcode_eq, hslot, readImm8,
        busRead_setFetch]
  | imm16 mk =>
    refine ⟨3, by decide, by decide, ?_, ?_⟩ <;>
      simp only [State.fetched, State.fetchAddrs, List.take, readAll, decode, fetchInstr, fetchOpcode_eq, hslot, readImm16,
        readImm8, busRead_setFetch, h11]
  | cbPrefix =>
    refine ⟨2, by decide, by decide, ?_, ?_⟩ <;>
      simp only [State.fetched, State.fetchAddrs, List.take, readAll, decode, fetchInstr, fetchOpcode_eq, hslot, readImm8,
        busRead_setFetch]

/-- Fetching disarms the HALT bug, moves PC, and changes memory, what the peripherals hold and the bus log; nothing else. -/
theorem fetchInstr_frame (s : State) : (fetchInstr s).2 =
    { s with
      haltBug := false
      pc := (fetchInstr s).2.pc
      mem := (fetchInstr s).2.mem
      device := (fetchInstr s).2.device
      bus := (fetchInstr s).2.bus } := by
  obtain ⟨n, -, -, -, h⟩ := fetchInstr_eq s
  rw [h, State.fetched, readAll_eq]

theorem fetchInstr_wf (s : State) (h : s.mem.wf = true) : (fetchInstr s).2.mem.wf = true := by
  obtain ⟨n, -, -, -, hn⟩ := fetchInstr_eq s
  rw [hn]; exact readAll_wf _ s h

/-- Everything the interrupt service does (R304, R305), as one update of the state. -/
theorem serviceInterrupt_eq (s : State) : serviceInterrupt s =
    { s with
      sp := s.sp - 2#16
      pc := vector (lowestBit s.pend)
      halted := false
      ime := false
      haltBug := s.haltBug && decide (s.params.eiHaltMode = .source)
      ifReg := irqBits ((push16 s.pc s).ifReg &&& ~~~(0x01#8 <<< lowestBit s.pend))
      ieReg := (push16 s.pc s).ieReg
      mem := (push16 s.pc s).mem
      device := (push16 s.pc s).device
      cycles := some 5
      bus := (push16 s.pc s).bus } := by
  simp only [serviceInterrupt, State.clearIfBit]
  generalize lowestBit s.pend = k
  simp

/-- The interrupt that is serviced is pending and enabled, and none of higher priority is (R302). -/
theorem lowestBit_spec (s : State) (h : s.pend ≠ 0#8) : lowestBit s.pend < 5 ∧ s.pend.getLsbD (lowestBit s.pend) = true ∧
    ∀ j, j < lowestBit s.pend → s.pend.getLsbD j = false := by
  have all : ∀ p : Byte, irqBits p = p → p ≠ 0#8 → lowestBit p < 5 ∧ p.getLsbD (lowestBit p) = true ∧
      ∀ j, j < lowestBit p → p.getLsbD j = false := by decide
  exact all s.pend (irqBits_irqBits _) h

/-- Clearing bit k of IF through its interface: bit k and bits 7..5 are 0, the others as they were (R63, R304). -/
theorem irqBits_clear (v : Byte) (k j : Nat) (hk : k < 5) : (irqBits (v &&& ~~~(0x01#8 <<< k))).getLsbD j =
    (v.getLsbD j && decide (j < 5) && decide (j ≠ k)) := by
  by_cases hj : j < 8
  · have e : ∀ k < 5, ∀ j < 8, (~~~(0x01#8 <<< k)).getLsbD j = decide (j ≠ k) := by decide
    have e2 : ∀ j < 8, (0x1F#8).getLsbD j = decide (j < 5) := by decide
    rw [irqBits, BitVec.getLsbD_and, BitVec.getLsbD_and, e k hk j hj, e2 j hj]
    cases v.getLsbD j <;> simp [Bool.and_comm]
  · rw [BitVec.getLsbD_of_ge _ _ (by omega), BitVec.getLsbD_of_ge _ _ (by omega)]; simp

/-- The end of a step changes ime and the armed enable only, and those only when the step raised no fault (R110, R315). -/
theorem endStep_eq (due : Bool) (s : State) : endStep due s =
    { s with
      ime := s.ime || (due && s.imePending && s.fault.isNone)
      imePending := s.imePending && !(due && s.fault.isNone) } := by
  unfold endStep commitLatch
  obtain ⟨_, _, _, _, _, _, _, _, _, _, _, ime, imePending, _, fault, _, _, _, _, _, _, _⟩ := s
  cases fault <;> cases due <;> cases ime <;> cases imePending <;> rfl

/-- The interrupt service keeps the parts of the invariant about F, IE and memory, and leaves IF's bits 7..5 clear (R304). -/
theorem serviceInterrupt_sound (s : State) :
    (serviceInterrupt s).f = s.f ∧ (serviceInterrupt s).ifReg &&& 0xE0#8 = 0#8 ∧
    (s.ieReg &&& 0xE0#8 = 0#8 → (serviceInterrupt s).ieReg &&& 0xE0#8 = 0#8) ∧
    (s.mem.wf = true → (serviceInterrupt s).mem.wf = true) := by
  have p := plain_push16 s s.pc
  rw [serviceInterrupt_eq]
  exact ⟨rfl, irqBits_top _, p.ieTop, p.memory⟩

/-- The three kinds of step (R103 to R105). -/
theorem coreStep_eq (s : State) : coreStep s =
    if s.halted = true ∧ s.pend = 0#8 then .next (s.finish 1)
    else if s.ime = true ∧ s.pend ≠ 0#8 then .next (endStep s.imePending (serviceInterrupt { s with halted := false }))
    else runInstr s.imePending { s with halted := false } := rfl

theorem step_of_fault_none {s : State} (h : s.fault = none) : step s = coreStep s.beginStep := by rw [step, h]

/-- An idle halted step, forwards (R103). -/
theorem step_of_idle {s : State} (hf : s.fault = none) (hi : s.beginStep.idle) : step s = .next (s.beginStep.finish 1) := by
  unfold State.idle at hi
  rw [step_of_fault_none hf, coreStep_eq, if_pos hi]

/-- A step that services an interrupt, forwards (R104). -/
theorem step_of_serviceable {s : State} (hf : s.fault = none) (hi : ¬ s.beginStep.idle) (hs : s.beginStep.serviceable) :
    step s = .next (endStep s.imePending (serviceInterrupt s.awake)) := by
  unfold State.idle at hi
  unfold State.serviceable at hs
  rw [step_of_fault_none hf, coreStep_eq, if_neg hi, if_pos hs, State.awake, beginStep_imePending]

/-- A step that runs an instruction is the fetch and `exec` (R105 to R108). -/
theorem step_of_runs {s : State} (hr : s.runs) : step s = runInstr s.imePending s.awake := by
  obtain ⟨hf, hi, hs⟩ := hr
  unfold State.idle at hi
  unfold State.serviceable at hs
  rw [step_of_fault_none hf, coreStep_eq, if_neg hi, if_neg hs, State.awake, beginStep_imePending]

theorem runInstr_next {s u : State} {due : Bool} (h : exec (fetchInstr s).1 (fetchInstr s).2 = .next u) :
    runInstr due s = .next (endStep due u) := by
  rw [runInstr, h]

/-- The inversion of `step`: a step that answers a next state is the idle halted step, an interrupt service, or an instruction. -/
theorem step_cases {s t : State} (h : step s = .next t) : s.fault = none ∧
    ((s.beginStep.idle ∧ t = s.beginStep.finish 1) ∨
     (¬ s.beginStep.idle ∧ s.beginStep.serviceable ∧ t = endStep s.imePending (serviceInterrupt s.awake)) ∨
     (s.runs ∧ ∃ u, exec s.nextInstr (fetchInstr s.awake).2 = .next u ∧ t = endStep s.imePending u)) := by
  cases hf : s.fault with
  | some f => rw [step, hf] at h; cases h
  | none =>
    refine ⟨rfl, ?_⟩
    by_cases hi : s.beginStep.idle
    · rw [step_of_idle hf hi] at h; cases h
      exact .inl ⟨hi, rfl⟩
    · by_cases hs : s.beginStep.serviceable
      · rw [step_of_serviceable hf hi hs] at h; cases h
        exact .inr (.inl ⟨hi, hs, rfl⟩)
      · obtain ⟨u, hu, -⟩ := exec_cases (fetchInstr s.awake).1 (fetchInstr s.awake).2
        rw [step_of_runs ⟨hf, hi, hs⟩, runInstr_next hu] at h; cases h
        exact .inr (.inr ⟨⟨hf, hi, hs⟩, u, hu, rfl⟩)

end Sys2Proof.Machine
end

