-- ==== Sys2Proof/Tests/Slice0.lean ====
section
/-! SUPPORT. The package's own tests: the well-formedness check refuses; every row of spec/opcode_table.json decodes from its
`encoding` column, written out bit by bit; one step on the rows of spec/95_test_vectors.md part 2, each started as its row says; and
for every obligation with hypotheses a state and operands that meet them. -/

namespace Sys2Proof.Tests

open Sys2Proof.Machine

/-! ### Well-formedness -/

/-- The prefix byte is no instruction of its own (R106): the one ill-formed term. -/
theorem test_wellFormed_refuses_prefix : Instr.wellFormed .prefixCb = false := by decide

/-! ### Decoding -/

/-- Each list of bytes decodes to the instruction beside it, with nothing left over. -/
def decodes (words : List (List Byte)) (instrs : List Instr) : Prop :=
  words.map (fun bs => match decode bs with
    | .ok (i, []) => some i
    | _ => none) = instrs.map some

theorem test_decode_row_0 : decodes
    [[0b00000000#8], [0b00000001#8, 0x34#8, 0x12#8], [0b00000010#8], [0b00000011#8], [0b00000100#8], [0b00000101#8],
     [0b00000110#8, 0x9A#8], [0b00000111#8], [0b00001000#8, 0x34#8, 0x12#8], [0b00001001#8], [0b00001010#8],
     [0b00001011#8], [0b00001100#8], [0b00001101#8], [0b00001110#8, 0x9A#8], [0b00001111#8]]
    [.nop, .ldBcN16 0x1234#16, .ldAtBcA, .incBc, .incB, .decB, .ldBN8 0x9A#8, .rlca, .ldAtN16Sp 0x1234#16, .addHlBc,
     .ldAAtBc, .decBc, .incC, .decC, .ldCN8 0x9A#8, .rrca] := by unfold decodes; decide

theorem test_decode_row_1 : decodes
    [[0b00010000#8, 0x9A#8], [0b00010001#8, 0x34#8, 0x12#8], [0b00010010#8], [0b00010011#8], [0b00010100#8],
     [0b00010101#8], [0b00010110#8, 0x9A#8], [0b00010111#8], [0b00011000#8, 0x9A#8], [0b00011001#8], [0b00011010#8],
     [0b00011011#8], [0b00011100#8], [0b00011101#8], [0b00011110#8, 0x9A#8], [0b00011111#8]]
    [.stop 0x9A#8, .ldDeN16 0x1234#16, .ldAtDeA, .incDe, .incD, .decD, .ldDN8 0x9A#8, .rla, .jrE8 0x9A#8, .addHlDe,
     .ldAAtDe, .decDe, .incE, .decE, .ldEN8 0x9A#8, .rra] := by unfold decodes; decide

theorem test_decode_row_2 : decodes
    [[0b00100000#8, 0x9A#8], [0b00100001#8, 0x34#8, 0x12#8], [0b00100010#8], [0b00100011#8], [0b00100100#8],
     [0b00100101#8], [0b00100110#8, 0x9A#8], [0b00100111#8], [0b00101000#8, 0x9A#8], [0b00101001#8], [0b00101010#8],
     [0b00101011#8], [0b00101100#8], [0b00101101#8], [0b00101110#8, 0x9A#8], [0b00101111#8]]
    [.jrNzE8 0x9A#8, .ldHlN16 0x1234#16, .ldAtHliA, .incHl, .incH, .decH, .ldHN8 0x9A#8, .daa, .jrZE8 0x9A#8, .addHlHl,
     .ldAAtHli, .decHl, .incL, .decL, .ldLN8 0x9A#8, .cpl] := by unfold decodes; decide

theorem test_decode_row_3 : decodes
    [[0b00110000#8, 0x9A#8], [0b00110001#8, 0x34#8, 0x12#8], [0b00110010#8], [0b00110011#8], [0b00110100#8],
     [0b00110101#8], [0b00110110#8, 0x9A#8], [0b00110111#8], [0b00111000#8, 0x9A#8], [0b00111001#8], [0b00111010#8],
     [0b00111011#8], [0b00111100#8], [0b00111101#8], [0b00111110#8, 0x9A#8], [0b00111111#8]]
    [.jrNcE8 0x9A#8, .ldSpN16 0x1234#16, .ldAtHldA, .incSp, .incAtHl, .decAtHl, .ldAtHlN8 0x9A#8, .scf, .jrCE8 0x9A#8,
     .addHlSp, .ldAAtHld, .decSp, .incA, .decA, .ldAN8 0x9A#8, .ccf] := by unfold decodes; decide

theorem test_decode_row_4 : decodes
    [[0b01000000#8], [0b01000001#8], [0b01000010#8], [0b01000011#8], [0b01000100#8], [0b01000101#8], [0b01000110#8],
     [0b01000111#8], [0b01001000#8], [0b01001001#8], [0b01001010#8], [0b01001011#8], [0b01001100#8], [0b01001101#8],
     [0b01001110#8], [0b01001111#8]]
    [.ldBB, .ldBC, .ldBD, .ldBE, .ldBH, .ldBL, .ldBAtHl, .ldBA, .ldCB, .ldCC, .ldCD, .ldCE, .ldCH, .ldCL, .ldCAtHl, .ldCA] := by unfold decodes; decide

theorem test_decode_row_5 : decodes
    [[0b01010000#8], [0b01010001#8], [0b01010010#8], [0b01010011#8], [0b01010100#8], [0b01010101#8], [0b01010110#8],
     [0b01010111#8], [0b01011000#8], [0b01011001#8], [0b01011010#8], [0b01011011#8], [0b01011100#8], [0b01011101#8],
     [0b01011110#8], [0b01011111#8]]
    [.ldDB, .ldDC, .ldDD, .ldDE, .ldDH, .ldDL, .ldDAtHl, .ldDA, .ldEB, .ldEC, .ldED, .ldEE, .ldEH, .ldEL, .ldEAtHl, .ldEA] := by unfold decodes; decide

theorem test_decode_row_6 : decodes
    [[0b01100000#8], [0b01100001#8], [0b01100010#8], [0b01100011#8], [0b01100100#8], [0b01100101#8], [0b01100110#8],
     [0b01100111#8], [0b01101000#8], [0b01101001#8], [0b01101010#8], [0b01101011#8], [0b01101100#8], [0b01101101#8],
     [0b01101110#8], [0b01101111#8]]
    [.ldHB, .ldHC, .ldHD, .ldHE, .ldHH, .ldHL, .ldHAtHl, .ldHA, .ldLB, .ldLC, .ldLD, .ldLE, .ldLH, .ldLL, .ldLAtHl, .ldLA] := by unfold decodes; decide

theorem test_decode_row_7 : decodes
    [[0b01110000#8], [0b01110001#8], [0b01110010#8], [0b01110011#8], [0b01110100#8], [0b01110101#8], [0b01110110#8],
     [0b01110111#8], [0b01111000#8], [0b01111001#8], [0b01111010#8], [0b01111011#8], [0b01111100#8], [0b01111101#8],
     [0b01111110#8], [0b01111111#8]]
    [.ldAtHlB, .ldAtHlC, .ldAtHlD, .ldAtHlE, .ldAtHlH, .ldAtHlL, .halt, .ldAtHlA, .ldAB, .ldAC, .ldAD, .ldAE, .ldAH, .ldAL,
     .ldAAtHl, .ldAA] := by unfold decodes; decide

theorem test_decode_row_8 : decodes
    [[0b10000000#8], [0b10000001#8], [0b10000010#8], [0b10000011#8], [0b10000100#8], [0b10000101#8], [0b10000110#8],
     [0b10000111#8], [0b10001000#8], [0b10001001#8], [0b10001010#8], [0b10001011#8], [0b10001100#8], [0b10001101#8],
     [0b10001110#8], [0b10001111#8]]
    [.addAB, .addAC, .addAD, .addAE, .addAH, .addAL, .addAAtHl, .addAA, .adcAB, .adcAC, .adcAD, .adcAE, .adcAH, .adcAL,
     .adcAAtHl, .adcAA] := by unfold decodes; decide

theorem test_decode_row_9 : decodes
    [[0b10010000#8], [0b10010001#8], [0b10010010#8], [0b10010011#8], [0b10010100#8], [0b10010101#8], [0b10010110#8],
     [0b10010111#8], [0b10011000#8], [0b10011001#8], [0b10011010#8], [0b10011011#8], [0b10011100#8], [0b10011101#8],
     [0b10011110#8], [0b10011111#8]]
    [.subAB, .subAC, .subAD, .subAE, .subAH, .subAL, .subAAtHl, .subAA, .sbcAB, .sbcAC, .sbcAD, .sbcAE, .sbcAH, .sbcAL,
     .sbcAAtHl, .sbcAA] := by unfold decodes; decide

theorem test_decode_row_a : decodes
    [[0b10100000#8], [0b10100001#8], [0b10100010#8], [0b10100011#8], [0b10100100#8], [0b10100101#8], [0b10100110#8],
     [0b10100111#8], [0b10101000#8], [0b10101001#8], [0b10101010#8], [0b10101011#8], [0b10101100#8], [0b10101101#8],
     [0b10101110#8], [0b10101111#8]]
    [.andAB, .andAC, .andAD, .andAE, .andAH, .andAL, .andAAtHl, .andAA, .xorAB, .xorAC, .xorAD, .xorAE, .xorAH, .xorAL,
     .xorAAtHl, .xorAA] := by unfold decodes; decide

theorem test_decode_row_b : decodes
    [[0b10110000#8], [0b10110001#8], [0b10110010#8], [0b10110011#8], [0b10110100#8], [0b10110101#8], [0b10110110#8],
     [0b10110111#8], [0b10111000#8], [0b10111001#8], [0b10111010#8], [0b10111011#8], [0b10111100#8], [0b10111101#8],
     [0b10111110#8], [0b10111111#8]]
    [.orAB, .orAC, .orAD, .orAE, .orAH, .orAL, .orAAtHl, .orAA, .cpAB, .cpAC, .cpAD, .cpAE, .cpAH, .cpAL, .cpAAtHl, .cpAA] := by unfold decodes; decide

theorem test_decode_row_c : decodes
    [[0b11000000#8], [0b11000001#8], [0b11000010#8, 0x34#8, 0x12#8], [0b11000011#8, 0x34#8, 0x12#8],
     [0b11000100#8, 0x34#8, 0x12#8], [0b11000101#8], [0b11000110#8, 0x9A#8], [0b11000111#8], [0b11001000#8],
     [0b11001001#8], [0b11001010#8, 0x34#8, 0x12#8], [0b11001100#8, 0x34#8, 0x12#8], [0b11001101#8, 0x34#8, 0x12#8],
     [0b11001110#8, 0x9A#8], [0b11001111#8]]
    [.retNz, .popBc, .jpNzN16 0x1234#16, .jpN16 0x1234#16, .callNzN16 0x1234#16, .pushBc, .addAN8 0x9A#8, .rst00, .retZ,
     .ret, .jpZN16 0x1234#16, .callZN16 0x1234#16, .callN16 0x1234#16, .adcAN8 0x9A#8, .rst08] := by unfold decodes; decide

theorem test_decode_row_d : decodes
    [[0b11010000#8], [0b11010001#8], [0b11010010#8, 0x34#8, 0x12#8], [0b11010011#8], [0b11010100#8, 0x34#8, 0x12#8],
     [0b11010101#8], [0b11010110#8, 0x9A#8], [0b11010111#8], [0b11011000#8], [0b11011001#8],
     [0b11011010#8, 0x34#8, 0x12#8], [0b11011011#8], [0b11011100#8, 0x34#8, 0x12#8], [0b11011101#8],
     [0b11011110#8, 0x9A#8], [0b11011111#8]]
    [.retNc, .popDe, .jpNcN16 0x1234#16, .unusedD3, .callNcN16 0x1234#16, .pushDe, .subAN8 0x9A#8, .rst10, .retC, .reti,
     .jpCN16 0x1234#16, .unusedDB, .callCN16 0x1234#16, .unusedDD, .sbcAN8 0x9A#8, .rst18] := by unfold decodes; decide

theorem test_decode_row_e : decodes
    [[0b11100000#8, 0x9A#8], [0b11100001#8], [0b11100010#8], [0b11100011#8], [0b11100100#8], [0b11100101#8],
     [0b11100110#8, 0x9A#8], [0b11100111#8], [0b11101000#8, 0x9A#8], [0b11101001#8], [0b11101010#8, 0x34#8, 0x12#8],
     [0b11101011#8], [0b11101100#8], [0b11101101#8], [0b11101110#8, 0x9A#8], [0b11101111#8]]
    [.ldhAtN8A 0x9A#8, .popHl, .ldhAtCA, .unusedE3, .unusedE4, .pushHl, .andAN8 0x9A#8, .rst20, .addSpE8 0x9A#8, .jpHl,
     .ldAtN16A 0x1234#16, .unusedEB, .unusedEC, .unusedED, .xorAN8 0x9A#8, .rst28] := by unfold decodes; decide

theorem test_decode_row_f : decodes
    [[0b11110000#8, 0x9A#8], [0b11110001#8], [0b11110010#8], [0b11110011#8], [0b11110100#8], [0b11110101#8],
     [0b11110110#8, 0x9A#8], [0b11110111#8], [0b11111000#8, 0x9A#8], [0b11111001#8], [0b11111010#8, 0x34#8, 0x12#8],
     [0b11111011#8], [0b11111100#8], [0b11111101#8], [0b11111110#8, 0x9A#8], [0b11111111#8]]
    [.ldhAAtN8 0x9A#8, .popAf, .ldhAAtC, .di, .unusedF4, .pushAf, .orAN8 0x9A#8, .rst30, .ldHlSpE8 0x9A#8, .ldSpHl,
     .ldAAtN16 0x1234#16, .ei, .unusedFC, .unusedFD, .cpAN8 0x9A#8, .rst38] := by unfold decodes; decide

theorem test_decode_rlc : decodes
    [[0b11001011#8, 0b00000000#8], [0b11001011#8, 0b00000001#8], [0b11001011#8, 0b00000010#8],
     [0b11001011#8, 0b00000011#8], [0b11001011#8, 0b00000100#8], [0b11001011#8, 0b00000101#8],
     [0b11001011#8, 0b00000110#8], [0b11001011#8, 0b00000111#8]]
    [.rlcB, .rlcC, .rlcD, .rlcE, .rlcH, .rlcL, .rlcAtHl, .rlcA] := by unfold decodes; decide

theorem test_decode_rrc : decodes
    [[0b11001011#8, 0b00001000#8], [0b11001011#8, 0b00001001#8], [0b11001011#8, 0b00001010#8],
     [0b11001011#8, 0b00001011#8], [0b11001011#8, 0b00001100#8], [0b11001011#8, 0b00001101#8],
     [0b11001011#8, 0b00001110#8], [0b11001011#8, 0b00001111#8]]
    [.rrcB, .rrcC, .rrcD, .rrcE, .rrcH, .rrcL, .rrcAtHl, .rrcA] := by unfold decodes; decide

theorem test_decode_rl : decodes
    [[0b11001011#8, 0b00010000#8], [0b11001011#8, 0b00010001#8], [0b11001011#8, 0b00010010#8],
     [0b11001011#8, 0b00010011#8], [0b11001011#8, 0b00010100#8], [0b11001011#8, 0b00010101#8],
     [0b11001011#8, 0b00010110#8], [0b11001011#8, 0b00010111#8]]
    [.rlB, .rlC, .rlD, .rlE, .rlH, .rlL, .rlAtHl, .rlA] := by unfold decodes; decide

theorem test_decode_rr : decodes
    [[0b11001011#8, 0b00011000#8], [0b11001011#8, 0b00011001#8], [0b11001011#8, 0b00011010#8],
     [0b11001011#8, 0b00011011#8], [0b11001011#8, 0b00011100#8], [0b11001011#8, 0b00011101#8],
     [0b11001011#8, 0b00011110#8], [0b11001011#8, 0b00011111#8]]
    [.rrB, .rrC, .rrD, .rrE, .rrH, .rrL, .rrAtHl, .rrA] := by unfold decodes; decide

theorem test_decode_sla : decodes
    [[0b11001011#8, 0b00100000#8], [0b11001011#8, 0b00100001#8], [0b11001011#8, 0b00100010#8],
     [0b11001011#8, 0b00100011#8], [0b11001011#8, 0b00100100#8], [0b11001011#8, 0b00100101#8],
     [0b11001011#8, 0b00100110#8], [0b11001011#8, 0b00100111#8]]
    [.slaB, .slaC, .slaD, .slaE, .slaH, .slaL, .slaAtHl, .slaA] := by unfold decodes; decide

theorem test_decode_sra : decodes
    [[0b11001011#8, 0b00101000#8], [0b11001011#8, 0b00101001#8], [0b11001011#8, 0b00101010#8],
     [0b11001011#8, 0b00101011#8], [0b11001011#8, 0b00101100#8], [0b11001011#8, 0b00101101#8],
     [0b11001011#8, 0b00101110#8], [0b11001011#8, 0b00101111#8]]
    [.sraB, .sraC, .sraD, .sraE, .sraH, .sraL, .sraAtHl, .sraA] := by unfold decodes; decide

theorem test_decode_swap : decodes
    [[0b11001011#8, 0b00110000#8], [0b11001011#8, 0b00110001#8], [0b11001011#8, 0b00110010#8],
     [0b11001011#8, 0b00110011#8], [0b11001011#8, 0b00110100#8], [0b11001011#8, 0b00110101#8],
     [0b11001011#8, 0b00110110#8], [0b11001011#8, 0b00110111#8]]
    [.swapB, .swapC, .swapD, .swapE, .swapH, .swapL, .swapAtHl, .swapA] := by unfold decodes; decide

theorem test_decode_srl : decodes
    [[0b11001011#8, 0b00111000#8], [0b11001011#8, 0b00111001#8], [0b11001011#8, 0b00111010#8],
     [0b11001011#8, 0b00111011#8], [0b11001011#8, 0b00111100#8], [0b11001011#8, 0b00111101#8],
     [0b11001011#8, 0b00111110#8], [0b11001011#8, 0b00111111#8]]
    [.srlB, .srlC, .srlD, .srlE, .srlH, .srlL, .srlAtHl, .srlA] := by unfold decodes; decide

theorem test_decode_bit_0 : decodes
    [[0b11001011#8, 0b01000000#8], [0b11001011#8, 0b01000001#8], [0b11001011#8, 0b01000010#8],
     [0b11001011#8, 0b01000011#8], [0b11001011#8, 0b01000100#8], [0b11001011#8, 0b01000101#8],
     [0b11001011#8, 0b01000110#8], [0b11001011#8, 0b01000111#8]]
    [.bit0B, .bit0C, .bit0D, .bit0E, .bit0H, .bit0L, .bit0AtHl, .bit0A] := by unfold decodes; decide

theorem test_decode_bit_1 : decodes
    [[0b11001011#8, 0b01001000#8], [0b11001011#8, 0b01001001#8], [0b11001011#8, 0b01001010#8],
     [0b11001011#8, 0b01001011#8], [0b11001011#8, 0b01001100#8], [0b11001011#8, 0b01001101#8],
     [0b11001011#8, 0b01001110#8], [0b11001011#8, 0b01001111#8]]
    [.bit1B, .bit1C, .bit1D, .bit1E, .bit1H, .bit1L, .bit1AtHl, .bit1A] := by unfold decodes; decide

theorem test_decode_bit_2 : decodes
    [[0b11001011#8, 0b01010000#8], [0b11001011#8, 0b01010001#8], [0b11001011#8, 0b01010010#8],
     [0b11001011#8, 0b01010011#8], [0b11001011#8, 0b01010100#8], [0b11001011#8, 0b01010101#8],
     [0b11001011#8, 0b01010110#8], [0b11001011#8, 0b01010111#8]]
    [.bit2B, .bit2C, .bit2D, .bit2E, .bit2H, .bit2L, .bit2AtHl, .bit2A] := by unfold decodes; decide

theorem test_decode_bit_3 : decodes
    [[0b11001011#8, 0b01011000#8], [0b11001011#8, 0b01011001#8], [0b11001011#8, 0b01011010#8],
     [0b11001011#8, 0b01011011#8], [0b11001011#8, 0b01011100#8], [0b11001011#8, 0b01011101#8],
     [0b11001011#8, 0b01011110#8], [0b11001011#8, 0b01011111#8]]
    [.bit3B, .bit3C, .bit3D, .bit3E, .bit3H, .bit3L, .bit3AtHl, .bit3A] := by unfold decodes; decide

theorem test_decode_bit_4 : decodes
    [[0b11001011#8, 0b01100000#8], [0b11001011#8, 0b01100001#8], [0b11001011#8, 0b01100010#8],
     [0b11001011#8, 0b01100011#8], [0b11001011#8, 0b01100100#8], [0b11001011#8, 0b01100101#8],
     [0b11001011#8, 0b01100110#8], [0b11001011#8, 0b01100111#8]]
    [.bit4B, .bit4C, .bit4D, .bit4E, .bit4H, .bit4L, .bit4AtHl, .bit4A] := by unfold decodes; decide

theorem test_decode_bit_5 : decodes
    [[0b11001011#8, 0b01101000#8], [0b11001011#8, 0b01101001#8], [0b11001011#8, 0b01101010#8],
     [0b11001011#8, 0b01101011#8], [0b11001011#8, 0b01101100#8], [0b11001011#8, 0b01101101#8],
     [0b11001011#8, 0b01101110#8], [0b11001011#8, 0b01101111#8]]
    [.bit5B, .bit5C, .bit5D, .bit5E, .bit5H, .bit5L, .bit5AtHl, .bit5A] := by unfold decodes; decide

theorem test_decode_bit_6 : decodes
    [[0b11001011#8, 0b01110000#8], [0b11001011#8, 0b01110001#8], [0b11001011#8, 0b01110010#8],
     [0b11001011#8, 0b01110011#8], [0b11001011#8, 0b01110100#8], [0b11001011#8, 0b01110101#8],
     [0b11001011#8, 0b01110110#8], [0b11001011#8, 0b01110111#8]]
    [.bit6B, .bit6C, .bit6D, .bit6E, .bit6H, .bit6L, .bit6AtHl, .bit6A] := by unfold decodes; decide

theorem test_decode_bit_7 : decodes
    [[0b11001011#8, 0b01111000#8], [0b11001011#8, 0b01111001#8], [0b11001011#8, 0b01111010#8],
     [0b11001011#8, 0b01111011#8], [0b11001011#8, 0b01111100#8], [0b11001011#8, 0b01111101#8],
     [0b11001011#8, 0b01111110#8], [0b11001011#8, 0b01111111#8]]
    [.bit7B, .bit7C, .bit7D, .bit7E, .bit7H, .bit7L, .bit7AtHl, .bit7A] := by unfold decodes; decide

theorem test_decode_res_0 : decodes
    [[0b11001011#8, 0b10000000#8], [0b11001011#8, 0b10000001#8], [0b11001011#8, 0b10000010#8],
     [0b11001011#8, 0b10000011#8], [0b11001011#8, 0b10000100#8], [0b11001011#8, 0b10000101#8],
     [0b11001011#8, 0b10000110#8], [0b11001011#8, 0b10000111#8]]
    [.res0B, .res0C, .res0D, .res0E, .res0H, .res0L, .res0AtHl, .res0A] := by unfold decodes; decide

theorem test_decode_res_1 : decodes
    [[0b11001011#8, 0b10001000#8], [0b11001011#8, 0b10001001#8], [0b11001011#8, 0b10001010#8],
     [0b11001011#8, 0b10001011#8], [0b11001011#8, 0b10001100#8], [0b11001011#8, 0b10001101#8],
     [0b11001011#8, 0b10001110#8], [0b11001011#8, 0b10001111#8]]
    [.res1B, .res1C, .res1D, .res1E, .res1H, .res1L, .res1AtHl, .res1A] := by unfold decodes; decide

theorem test_decode_res_2 : decodes
    [[0b11001011#8, 0b10010000#8], [0b11001011#8, 0b10010001#8], [0b11001011#8, 0b10010010#8],
     [0b11001011#8, 0b10010011#8], [0b11001011#8, 0b10010100#8], [0b11001011#8, 0b10010101#8],
     [0b11001011#8, 0b10010110#8], [0b11001011#8, 0b10010111#8]]
    [.res2B, .res2C, .res2D, .res2E, .res2H, .res2L, .res2AtHl, .res2A] := by unfold decodes; decide

theorem test_decode_res_3 : decodes
    [[0b11001011#8, 0b10011000#8], [0b11001011#8, 0b10011001#8], [0b11001011#8, 0b10011010#8],
     [0b11001011#8, 0b10011011#8], [0b11001011#8, 0b10011100#8], [0b11001011#8, 0b10011101#8],
     [0b11001011#8, 0b10011110#8], [0b11001011#8, 0b10011111#8]]
    [.res3B, .res3C, .res3D, .res3E, .res3H, .res3L, .res3AtHl, .res3A] := by unfold decodes; decide

theorem test_decode_res_4 : decodes
    [[0b11001011#8, 0b10100000#8], [0b11001011#8, 0b10100001#8], [0b11001011#8, 0b10100010#8],
     [0b11001011#8, 0b10100011#8], [0b11001011#8, 0b10100100#8], [0b11001011#8, 0b10100101#8],
     [0b11001011#8, 0b10100110#8], [0b11001011#8, 0b10100111#8]]
    [.res4B, .res4C, .res4D, .res4E, .res4H, .res4L, .res4AtHl, .res4A] := by unfold decodes; decide

theorem test_decode_res_5 : decodes
    [[0b11001011#8, 0b10101000#8], [0b11001011#8, 0b10101001#8], [0b11001011#8, 0b10101010#8],
     [0b11001011#8, 0b10101011#8], [0b11001011#8, 0b10101100#8], [0b11001011#8, 0b10101101#8],
     [0b11001011#8, 0b10101110#8], [0b11001011#8, 0b10101111#8]]
    [.res5B, .res5C, .res5D, .res5E, .res5H, .res5L, .res5AtHl, .res5A] := by unfold decodes; decide

theorem test_decode_res_6 : decodes
    [[0b11001011#8, 0b10110000#8], [0b11001011#8, 0b10110001#8], [0b11001011#8, 0b10110010#8],
     [0b11001011#8, 0b10110011#8], [0b11001011#8, 0b10110100#8], [0b11001011#8, 0b10110101#8],
     [0b11001011#8, 0b10110110#8], [0b11001011#8, 0b10110111#8]]
    [.res6B, .res6C, .res6D, .res6E, .res6H, .res6L, .res6AtHl, .res6A] := by unfold decodes; decide

theorem test_decode_res_7 : decodes
    [[0b11001011#8, 0b10111000#8], [0b11001011#8, 0b10111001#8], [0b11001011#8, 0b10111010#8],
     [0b11001011#8, 0b10111011#8], [0b11001011#8, 0b10111100#8], [0b11001011#8, 0b10111101#8],
     [0b11001011#8, 0b10111110#8], [0b11001011#8, 0b10111111#8]]
    [.res7B, .res7C, .res7D, .res7E, .res7H, .res7L, .res7AtHl, .res7A] := by unfold decodes; decide

theorem test_decode_set_0 : decodes
    [[0b11001011#8, 0b11000000#8], [0b11001011#8, 0b11000001#8], [0b11001011#8, 0b11000010#8],
     [0b11001011#8, 0b11000011#8], [0b11001011#8, 0b11000100#8], [0b11001011#8, 0b11000101#8],
     [0b11001011#8, 0b11000110#8], [0b11001011#8, 0b11000111#8]]
    [.set0B, .set0C, .set0D, .set0E, .set0H, .set0L, .set0AtHl, .set0A] := by unfold decodes; decide

theorem test_decode_set_1 : decodes
    [[0b11001011#8, 0b11001000#8], [0b11001011#8, 0b11001001#8], [0b11001011#8, 0b11001010#8],
     [0b11001011#8, 0b11001011#8], [0b11001011#8, 0b11001100#8], [0b11001011#8, 0b11001101#8],
     [0b11001011#8, 0b11001110#8], [0b11001011#8, 0b11001111#8]]
    [.set1B, .set1C, .set1D, .set1E, .set1H, .set1L, .set1AtHl, .set1A] := by unfold decodes; decide

theorem test_decode_set_2 : decodes
    [[0b11001011#8, 0b11010000#8], [0b11001011#8, 0b11010001#8], [0b11001011#8, 0b11010010#8],
     [0b11001011#8, 0b11010011#8], [0b11001011#8, 0b11010100#8], [0b11001011#8, 0b11010101#8],
     [0b11001011#8, 0b11010110#8], [0b11001011#8, 0b11010111#8]]
    [.set2B, .set2C, .set2D, .set2E, .set2H, .set2L, .set2AtHl, .set2A] := by unfold decodes; decide

theorem test_decode_set_3 : decodes
    [[0b11001011#8, 0b11011000#8], [0b11001011#8, 0b11011001#8], [0b11001011#8, 0b11011010#8],
     [0b11001011#8, 0b11011011#8], [0b11001011#8, 0b11011100#8], [0b11001011#8, 0b11011101#8],
     [0b11001011#8, 0b11011110#8], [0b11001011#8, 0b11011111#8]]
    [.set3B, .set3C, .set3D, .set3E, .set3H, .set3L, .set3AtHl, .set3A] := by unfold decodes; decide

theorem test_decode_set_4 : decodes
    [[0b11001011#8, 0b11100000#8], [0b11001011#8, 0b11100001#8], [0b11001011#8, 0b11100010#8],
     [0b11001011#8, 0b11100011#8], [0b11001011#8, 0b11100100#8], [0b11001011#8, 0b11100101#8],
     [0b11001011#8, 0b11100110#8], [0b11001011#8, 0b11100111#8]]
    [.set4B, .set4C, .set4D, .set4E, .set4H, .set4L, .set4AtHl, .set4A] := by unfold decodes; decide

theorem test_decode_set_5 : decodes
    [[0b11001011#8, 0b11101000#8], [0b11001011#8, 0b11101001#8], [0b11001011#8, 0b11101010#8],
     [0b11001011#8, 0b11101011#8], [0b11001011#8, 0b11101100#8], [0b11001011#8, 0b11101101#8],
     [0b11001011#8, 0b11101110#8], [0b11001011#8, 0b11101111#8]]
    [.set5B, .set5C, .set5D, .set5E, .set5H, .set5L, .set5AtHl, .set5A] := by unfold decodes; decide

theorem test_decode_set_6 : decodes
    [[0b11001011#8, 0b11110000#8], [0b11001011#8, 0b11110001#8], [0b11001011#8, 0b11110010#8],
     [0b11001011#8, 0b11110011#8], [0b11001011#8, 0b11110100#8], [0b11001011#8, 0b11110101#8],
     [0b11001011#8, 0b11110110#8], [0b11001011#8, 0b11110111#8]]
    [.set6B, .set6C, .set6D, .set6E, .set6H, .set6L, .set6AtHl, .set6A] := by unfold decodes; decide

theorem test_decode_set_7 : decodes
    [[0b11001011#8, 0b11111000#8], [0b11001011#8, 0b11111001#8], [0b11001011#8, 0b11111010#8],
     [0b11001011#8, 0b11111011#8], [0b11001011#8, 0b11111100#8], [0b11001011#8, 0b11111101#8],
     [0b11001011#8, 0b11111110#8], [0b11001011#8, 0b11111111#8]]
    [.set7B, .set7C, .set7D, .set7E, .set7H, .set7L, .set7AtHl, .set7A] := by unfold decodes; decide

/-! ### One step -/

/-- The baseline state of spec/95_test_vectors.md: registers 0, SP 0xFFFE, PC 0xC000, IF and IE 0, memory 0. -/
def base : State := { State.reset with
  a := 0x00#8, f := 0x00#8, b := 0x00#8, c := 0x00#8, d := 0x00#8, e := 0x00#8, h := 0x00#8, l := 0x00#8
  pc := 0xC000#16, ifReg := 0x00#8, ieReg := 0x00#8 }

/-- The state with these bytes at PC. -/
def onCode (code : List Byte) (s : State) : State :=
  { s with mem := code.zipIdx.foldl (fun m x => m.write (s.pc + BitVec.ofNat 16 x.2).toNat x.1) s.mem }

/-- What a view shows of the state after one step, from a start with these bytes at PC. -/
def after {α : Type} (code : List Byte) (start : State) (view : State → α) : Option α :=
  match step (onCode code start) with
  | .next t => some (view t)
  | _ => none

theorem test_add_a_b : after [0x80#8] { base with a := 0x3A#8, b := 0xC6#8 } (fun t => (t.a, t.f, t.pc, t.cycles)) =
    some (0x00#8, 0xB0#8, 0xC001#16, some 1) := by decide

theorem test_add_a_at_hl : after [0x86#8] { base with a := 0x12#8, h := 0xD0#8, l := 0x00#8, mem := [(0xD000, 0xF0#8)] }
    (fun t => (t.a, t.f, t.pc, t.cycles)) = some (0x02#8, 0x10#8, 0xC001#16, some 2) := by decide

theorem test_adc_a_n8 : after [0xCE#8, 0x00#8] { base with a := 0xFF#8, f := 0x10#8 } (fun t => (t.a, t.f, t.pc, t.cycles)) =
    some (0x00#8, 0xB0#8, 0xC002#16, some 2) := by decide

theorem test_adc_a_c : after [0x89#8] { base with a := 0x7F#8, c := 0x80#8, f := 0x10#8 } (fun t => (t.a, t.f, t.pc, t.cycles)) =
    some (0x00#8, 0xB0#8, 0xC001#16, some 1) := by decide

theorem test_sub_a_e : after [0x93#8] { base with a := 0x3E#8, e := 0x40#8 } (fun t => (t.a, t.f, t.pc, t.cycles)) =
    some (0xFE#8, 0x50#8, 0xC001#16, some 1) := by decide

theorem test_sub_a_a : after [0x97#8] { base with a := 0x5A#8, f := 0x30#8 } (fun t => (t.a, t.f, t.pc, t.cycles)) =
    some (0x00#8, 0xC0#8, 0xC001#16, some 1) := by decide

theorem test_sbc_a_n8 : after [0xDE#8, 0xFF#8] { base with a := 0x00#8, f := 0x10#8 } (fun t => (t.f, t.pc, t.cycles)) =
    some (0xF0#8, 0xC002#16, some 2) := by decide

theorem test_sbc_a_a : after [0x9F#8] { base with a := 0x42#8, f := 0x10#8 } (fun t => (t.a, t.f, t.pc, t.cycles)) =
    some (0xFF#8, 0x70#8, 0xC001#16, some 1) := by decide

theorem test_and_a_l : after [0xA5#8] { base with a := 0x5A#8, l := 0x3F#8 } (fun t => (t.a, t.f, t.pc, t.cycles)) =
    some (0x1A#8, 0x20#8, 0xC001#16, some 1) := by decide

theorem test_xor_a_a : after [0xAF#8] { base with a := 0x77#8, f := 0x70#8 } (fun t => (t.a, t.f, t.pc, t.cycles)) =
    some (0x00#8, 0x80#8, 0xC001#16, some 1) := by decide

theorem test_or_a_b : after [0xB0#8] { base with a := 0x00#8, b := 0x00#8, f := 0x70#8 } (fun t => (t.f, t.pc, t.cycles)) =
    some (0x80#8, 0xC001#16, some 1) := by decide

theorem test_cp_a_n8 : after [0xFE#8, 0x40#8] { base with a := 0x3C#8 } (fun t => (t.f, t.pc, t.cycles)) =
    some (0x50#8, 0xC002#16, some 2) := by decide

theorem test_cp_a_at_hl : after [0xBE#8] { base with a := 0x3C#8, h := 0xD0#8, l := 0x00#8, mem := [(0xD000, 0x40#8)] }
    (fun t => (t.f, t.pc, t.cycles)) = some (0x50#8, 0xC001#16, some 2) := by decide

theorem test_inc_a : after [0x3C#8] { base with a := 0xFF#8, f := 0x10#8 } (fun t => (t.a, t.f, t.pc, t.cycles)) =
    some (0x00#8, 0xB0#8, 0xC001#16, some 1) := by decide

theorem test_inc_at_hl : after [0x34#8] { base with h := 0xD0#8, l := 0x00#8, mem := [(0xD000, 0xFF#8)] }
    (fun t => (t.f, t.pc, t.cycles, t.peek 0xD000#16)) = some (0xA0#8, 0xC001#16, some 3, 0x00#8) := by decide

theorem test_dec_c : after [0x0D#8] { base with c := 0x00#8, f := 0x10#8 } (fun t => (t.c, t.f, t.pc, t.cycles)) =
    some (0xFF#8, 0x70#8, 0xC001#16, some 1) := by decide

theorem test_dec_at_hl : after [0x35#8] { base with h := 0xD0#8, l := 0x00#8, mem := [(0xD000, 0x01#8)] }
    (fun t => (t.f, t.pc, t.cycles, t.peek 0xD000#16)) = some (0xC0#8, 0xC001#16, some 3, 0x00#8) := by decide

theorem test_daa : after [0x27#8] { base with a := 0x9A#8 } (fun t => (t.a, t.f, t.pc, t.cycles)) =
    some (0x00#8, 0x90#8, 0xC001#16, some 1) := by decide

theorem test_daa_2 : after [0x27#8] { base with a := 0xFF#8, f := 0x70#8 } (fun t => (t.a, t.f, t.pc, t.cycles)) =
    some (0x99#8, 0x50#8, 0xC001#16, some 1) := by decide

theorem test_cpl : after [0x2F#8] { base with a := 0x00#8, f := 0x90#8 } (fun t => (t.a, t.f, t.pc, t.cycles)) =
    some (0xFF#8, 0xF0#8, 0xC001#16, some 1) := by decide

theorem test_scf : after [0x37#8] { base with f := 0xE0#8 } (fun t => (t.f, t.pc, t.cycles)) =
    some (0x90#8, 0xC001#16, some 1) := by decide

theorem test_ccf : after [0x3F#8] { base with f := 0xE0#8 } (fun t => (t.f, t.pc, t.cycles)) =
    some (0x90#8, 0xC001#16, some 1) := by decide

theorem test_add_hl_hl : after [0x29#8] { base with h := 0x8A#8, l := 0x23#8, f := 0x80#8 }
    (fun t => (t.h, t.l, t.f, t.pc, t.cycles)) = some (0x14#8, 0x46#8, 0xB0#8, 0xC001#16, some 2) := by decide

theorem test_add_hl_de : after [0x19#8] { base with h := 0xFF#8, l := 0xFF#8, d := 0x00#8, e := 0x01#8 }
    (fun t => (t.h, t.l, t.f, t.pc, t.cycles)) = some (0x00#8, 0x00#8, 0x30#8, 0xC001#16, some 2) := by decide

theorem test_inc_bc : after [0x03#8] { base with b := 0xFF#8, c := 0xFF#8, f := 0x50#8 }
    (fun t => (t.b, t.c, t.f, t.pc, t.cycles)) = some (0x00#8, 0x00#8, 0x50#8, 0xC001#16, some 2) := by decide

theorem test_dec_sp : after [0x3B#8] { base with sp := 0x0000#16 } (fun t => (t.f, t.sp, t.pc, t.cycles)) =
    some (0x00#8, 0xFFFF#16, 0xC001#16, some 2) := by decide

theorem test_add_sp_e8 : after [0xE8#8, 0xFF#8] { base with sp := 0x00FF#16 } (fun t => (t.f, t.sp, t.pc, t.cycles)) =
    some (0x00#8, 0x00FE#16, 0xC002#16, some 4) := by decide

theorem test_add_sp_e8_2 : after [0xE8#8, 0xFF#8]
    { base with sp := 0x00FF#16, params := { Params.default with spE8Rule := .unsignedLowByte } }
    (fun t => (t.f, t.sp, t.pc, t.cycles)) = some (0x30#8, 0x00FE#16, 0xC002#16, some 4) := by decide

theorem test_rlca : after [0x07#8] { base with a := 0x85#8, f := 0x80#8 } (fun t => (t.a, t.f, t.pc, t.cycles)) =
    some (0x0B#8, 0x10#8, 0xC001#16, some 1) := by decide

theorem test_rrca : after [0x0F#8] { base with a := 0x3B#8 } (fun t => (t.a, t.f, t.pc, t.cycles)) =
    some (0x9D#8, 0x10#8, 0xC001#16, some 1) := by decide

theorem test_rla : after [0x17#8] { base with a := 0x80#8 } (fun t => (t.a, t.f, t.pc, t.cycles)) =
    some (0x00#8, 0x10#8, 0xC001#16, some 1) := by decide

theorem test_rra : after [0x1F#8] { base with a := 0x01#8, f := 0x10#8 } (fun t => (t.a, t.f, t.pc, t.cycles)) =
    some (0x80#8, 0x10#8, 0xC001#16, some 1) := by decide

theorem test_rlc_b : after [0xCB#8, 0x00#8] { base with b := 0x85#8 } (fun t => (t.b, t.f, t.pc, t.cycles)) =
    some (0x0B#8, 0x10#8, 0xC002#16, some 2) := by decide

theorem test_rrc_at_hl : after [0xCB#8, 0x0E#8] { base with h := 0xD0#8, l := 0x00#8, mem := [(0xD000, 0x02#8)] }
    (fun t => (t.f, t.pc, t.cycles, t.peek 0xD000#16)) = some (0x00#8, 0xC002#16, some 4, 0x01#8) := by decide

theorem test_rl_c : after [0xCB#8, 0x11#8] { base with c := 0x80#8 } (fun t => (t.c, t.f, t.pc, t.cycles)) =
    some (0x00#8, 0x90#8, 0xC002#16, some 2) := by decide

theorem test_rr_e : after [0xCB#8, 0x1B#8] { base with e := 0x8A#8, f := 0x10#8 } (fun t => (t.e, t.f, t.pc, t.cycles)) =
    some (0xC5#8, 0x00#8, 0xC002#16, some 2) := by decide

theorem test_sla_e : after [0xCB#8, 0x23#8] { base with e := 0x80#8 } (fun t => (t.e, t.f, t.pc, t.cycles)) =
    some (0x00#8, 0x90#8, 0xC002#16, some 2) := by decide

theorem test_sra_a : after [0xCB#8, 0x2F#8] { base with a := 0x8A#8 } (fun t => (t.a, t.f, t.pc, t.cycles)) =
    some (0xC5#8, 0x00#8, 0xC002#16, some 2) := by decide

theorem test_swap_at_hl : after [0xCB#8, 0x36#8] { base with h := 0xD0#8, l := 0x00#8, mem := [(0xD000, 0xAB#8)] }
    (fun t => (t.f, t.pc, t.cycles, t.peek 0xD000#16)) = some (0x00#8, 0xC002#16, some 4, 0xBA#8) := by decide

theorem test_srl_a : after [0xCB#8, 0x3F#8] { base with a := 0x01#8 } (fun t => (t.a, t.f, t.pc, t.cycles)) =
    some (0x00#8, 0x90#8, 0xC002#16, some 2) := by decide

theorem test_bit_7_h : after [0xCB#8, 0x7C#8] { base with h := 0x7F#8, f := 0x10#8 } (fun t => (t.f, t.pc, t.cycles)) =
    some (0xB0#8, 0xC002#16, some 2) := by decide

theorem test_bit_0_at_hl : after [0xCB#8, 0x46#8] { base with h := 0xD0#8, l := 0x00#8, mem := [(0xD000, 0xFE#8)] }
    (fun t => (t.f, t.pc, t.cycles)) = some (0xA0#8, 0xC002#16, some 3) := by decide

theorem test_res_7_at_hl : after [0xCB#8, 0xBE#8] { base with h := 0xD0#8, l := 0x00#8, mem := [(0xD000, 0x80#8)] }
    (fun t => (t.f, t.pc, t.cycles, t.peek 0xD000#16)) = some (0x00#8, 0xC002#16, some 4, 0x00#8) := by decide

theorem test_set_3_c : after [0xCB#8, 0xD9#8] { base with c := 0x00#8, f := 0x80#8 } (fun t => (t.c, t.f, t.pc, t.cycles)) =
    some (0x08#8, 0x80#8, 0xC002#16, some 2) := by decide

theorem test_ld_b_c : after [0x41#8] { base with c := 0x5A#8, f := 0xB0#8 } (fun t => (t.b, t.f, t.pc, t.cycles)) =
    some (0x5A#8, 0xB0#8, 0xC001#16, some 1) := by decide

theorem test_ld_at_hl_h : after [0x74#8] { base with h := 0xD0#8, l := 0x80#8 }
    (fun t => (t.f, t.pc, t.cycles, t.peek 0xD080#16)) = some (0x00#8, 0xC001#16, some 2, 0xD0#8) := by decide

theorem test_ld_h_at_hl : after [0x66#8] { base with h := 0xD0#8, l := 0x00#8, mem := [(0xD000, 0x12#8)] }
    (fun t => (t.h, t.f, t.pc, t.cycles)) = some (0x12#8, 0x00#8, 0xC001#16, some 2) := by decide

theorem test_ld_at_hl_n8 : after [0x36#8, 0x5E#8] { base with h := 0xD0#8, l := 0x00#8 }
    (fun t => (t.f, t.pc, t.cycles, t.peek 0xD000#16)) = some (0x00#8, 0xC002#16, some 3, 0x5E#8) := by decide

theorem test_ld_a_at_bc : after [0x0A#8] { base with b := 0xD0#8, c := 0x10#8, mem := [(0xD010, 0x3C#8)] }
    (fun t => (t.a, t.f, t.pc, t.cycles)) = some (0x3C#8, 0x00#8, 0xC001#16, some 2) := by decide

theorem test_ld_at_de_a : after [0x12#8] { base with a := 0x99#8, d := 0xD0#8, e := 0x20#8 }
    (fun t => (t.f, t.pc, t.cycles, t.peek 0xD020#16)) = some (0x00#8, 0xC001#16, some 2, 0x99#8) := by decide

theorem test_ld_a_at_n16 : after [0xFA#8, 0x34#8, 0xD2#8] { base with mem := [(0xD234, 0xAB#8)] }
    (fun t => (t.a, t.f, t.pc, t.cycles)) = some (0xAB#8, 0x00#8, 0xC003#16, some 4) := by decide

theorem test_ld_at_n16_a : after [0xEA#8, 0x00#8, 0xD3#8] { base with a := 0x5C#8 }
    (fun t => (t.f, t.pc, t.cycles, t.peek 0xD300#16)) = some (0x00#8, 0xC003#16, some 4, 0x5C#8) := by decide

theorem test_ldh_at_n8_a : after [0xE0#8, 0x80#8] { base with a := 0x42#8 } (fun t => (t.f, t.pc, t.cycles, t.peek 0xFF80#16)) =
    some (0x00#8, 0xC002#16, some 3, 0x42#8) := by decide

theorem test_ldh_a_at_n8 : after [0xF0#8, 0x0F#8] { base with ifReg := 0x05#8 } (fun t => (t.a, t.f, t.pc, t.cycles)) =
    some (0x05#8, 0x00#8, 0xC002#16, some 3) := by decide

theorem test_ldh_at_c_a : after [0xE2#8] { base with a := 0x1F#8, c := 0xFF#8 }
    (fun t => (t.f, t.pc, t.ieReg, t.cycles, t.peek 0xFFFF#16)) = some (0x00#8, 0xC001#16, 0x1F#8, some 2, 0x1F#8) := by decide

theorem test_ldh_a_at_c : after [0xF2#8] { base with c := 0x90#8, mem := [(0xFF90, 0x66#8)] }
    (fun t => (t.a, t.f, t.pc, t.cycles)) = some (0x66#8, 0x00#8, 0xC001#16, some 2) := by decide

theorem test_ld_a_at_hli : after [0x2A#8] { base with h := 0xFF#8, l := 0xFF#8, ieReg := 0x1B#8 }
    (fun t => ((t.a, t.h, t.l), t.f, t.pc, t.cycles)) = some ((0x1B#8, 0x00#8, 0x00#8), 0x00#8, 0xC001#16, some 2) := by decide

theorem test_ld_a_at_hld : after [0x3A#8] { base with h := 0xD0#8, l := 0x00#8, mem := [(0xD000, 0x5A#8)] }
    (fun t => ((t.a, t.h, t.l), t.f, t.pc, t.cycles)) = some ((0x5A#8, 0xCF#8, 0xFF#8), 0x00#8, 0xC001#16, some 2) := by decide

theorem test_ld_at_hli_a : after [0x22#8] { base with a := 0x11#8, h := 0xD0#8, l := 0xFF#8 }
    (fun t => ((t.h, t.l, t.f), t.pc, t.cycles, t.peek 0xD0FF#16)) =
    some ((0xD1#8, 0x00#8, 0x00#8), 0xC001#16, some 2, 0x11#8) := by decide

theorem test_ld_at_hld_a : after [0x32#8] { base with a := 0x11#8, h := 0x00#8, l := 0x00#8 }
    (fun t => ((t.h, t.l, t.f), t.pc, t.cycles, t.peek 0x0000#16)) =
    some ((0xFF#8, 0xFF#8, 0x00#8), 0xC001#16, some 2, 0x11#8) := by decide

theorem test_ld_bc_n16 : after [0x01#8, 0x34#8, 0x12#8] base (fun t => (t.b, t.c, t.f, t.pc, t.cycles)) =
    some (0x12#8, 0x34#8, 0x00#8, 0xC003#16, some 3) := by decide

theorem test_ld_sp_n16 : after [0x31#8, 0x00#8, 0xE0#8] base (fun t => (t.f, t.sp, t.pc, t.cycles)) =
    some (0x00#8, 0xE000#16, 0xC003#16, some 3) := by decide

theorem test_ld_at_n16_sp : after [0x08#8, 0x00#8, 0xD1#8] { base with sp := 0xABCD#16 }
    (fun t => (t.f, t.pc, t.cycles, t.peek 0xD100#16, t.peek 0xD101#16)) =
    some (0x00#8, 0xC003#16, some 5, 0xCD#8, 0xAB#8) := by decide

theorem test_ld_sp_hl : after [0xF9#8] { base with h := 0xD8#8, l := 0x00#8 } (fun t => (t.f, t.sp, t.pc, t.cycles)) =
    some (0x00#8, 0xD800#16, 0xC001#16, some 2) := by decide

theorem test_ld_hl_sp_e8 : after [0xF8#8, 0x08#8] { base with sp := 0xFFF8#16 } (fun t => (t.f, t.pc, t.cycles)) =
    some (0x30#8, 0xC002#16, some 3) := by decide

theorem test_ld_hl_sp_e8_2 : after [0xF8#8, 0xFE#8] { base with sp := 0xD00F#16, f := 0xF0#8 }
    (fun t => (t.h, t.l, t.f, t.pc, t.cycles)) = some (0xD0#8, 0x0D#8, 0x00#8, 0xC002#16, some 3) := by decide

theorem test_push_af : after [0xF5#8] { base with a := 0x12#8, f := 0xB0#8 }
    (fun t => ((t.f, t.sp, t.pc), t.cycles, t.peek 0xFFFD#16, t.peek 0xFFFC#16)) =
    some ((0xB0#8, 0xFFFC#16, 0xC001#16), some 4, 0x12#8, 0xB0#8) := by decide

theorem test_pop_de : after [0xD1#8] { base with sp := 0xFFFC#16, mem := [(0xFFFC, 0x34#8), (0xFFFD, 0x12#8)] }
    (fun t => ((t.d, t.e, t.f), t.sp, t.pc, t.cycles)) =
    some ((0x12#8, 0x34#8, 0x00#8), 0xFFFE#16, 0xC001#16, some 3) := by decide

theorem test_pop_af : after [0xF1#8] { base with sp := 0xFFFC#16, f := 0xF0#8, mem := [(0xFFFC, 0x0F#8), (0xFFFD, 0x80#8)] }
    (fun t => (t.a, t.f, t.sp, t.pc, t.cycles)) = some (0x80#8, 0x00#8, 0xFFFE#16, 0xC001#16, some 3) := by decide

theorem test_jp_n16 : after [0xC3#8, 0x50#8, 0x01#8] base (fun t => (t.f, t.pc, t.cycles)) =
    some (0x00#8, 0x0150#16, some 4) := by decide

theorem test_jp_nz_n16 : after [0xC2#8, 0x34#8, 0x12#8] { base with f := 0x80#8 } (fun t => (t.f, t.pc, t.cycles)) =
    some (0x80#8, 0xC003#16, some 3) := by decide

theorem test_jp_nz_n16_2 : after [0xC2#8, 0x34#8, 0x12#8] base (fun t => (t.f, t.pc, t.cycles)) =
    some (0x00#8, 0x1234#16, some 4) := by decide

theorem test_jp_hl : after [0xE9#8] { base with h := 0xC2#8, l := 0x00#8 } (fun t => (t.f, t.pc, t.cycles)) =
    some (0x00#8, 0xC200#16, some 1) := by decide

theorem test_jr_e8 : after [0x18#8, 0x80#8] base (fun t => (t.f, t.pc, t.cycles)) = some (0x00#8, 0xBF82#16, some 3) := by decide

theorem test_jr_e8_2 : after [0x18#8, 0x10#8] { base with pc := 0xFFF8#16 } (fun t => (t.f, t.pc, t.cycles)) =
    some (0x00#8, 0x000A#16, some 3) := by decide

theorem test_jr_z_e8 : after [0x28#8, 0xFC#8] { base with f := 0x80#8 } (fun t => (t.f, t.pc, t.cycles)) =
    some (0x80#8, 0xBFFE#16, some 3) := by decide

theorem test_jr_nc_e8 : after [0x30#8, 0x02#8] { base with f := 0x10#8 } (fun t => (t.f, t.pc, t.cycles)) =
    some (0x10#8, 0xC002#16, some 2) := by decide

theorem test_call_n16 : after [0xCD#8, 0x00#8, 0xC1#8] base
    (fun t => ((t.f, t.sp, t.pc), t.cycles, t.peek 0xFFFD#16, t.peek 0xFFFC#16)) =
    some ((0x00#8, 0xFFFC#16, 0xC100#16), some 6, 0xC0#8, 0x03#8) := by decide

theorem test_call_nc_n16 : after [0xD4#8, 0x00#8, 0x20#8] { base with sp := 0x0001#16 }
    (fun t => ((t.f, t.sp, t.pc), t.ieReg, t.cycles, t.peek 0x0000#16, t.peek 0xFFFF#16)) =
    some ((0x00#8, 0xFFFF#16, 0x2000#16), 0x03#8, some 6, 0xC0#8, 0x03#8) := by decide

theorem test_call_z_n16 : after [0xCC#8, 0x00#8, 0xC1#8] base (fun t => (t.f, t.pc, t.cycles)) =
    some (0x00#8, 0xC003#16, some 3) := by decide

theorem test_ret : after [0xC9#8] { base with sp := 0xFFFC#16, mem := [(0xFFFC, 0x03#8), (0xFFFD, 0xC0#8)] }
    (fun t => (t.f, t.sp, t.pc, t.cycles)) = some (0x00#8, 0xFFFE#16, 0xC003#16, some 4) := by decide

theorem test_ret_z : after [0xC8#8] { base with sp := 0xFFFC#16, f := 0x80#8, mem := [(0xFFFC, 0x03#8), (0xFFFD, 0xC0#8)] }
    (fun t => (t.f, t.sp, t.pc, t.cycles)) = some (0x80#8, 0xFFFE#16, 0xC003#16, some 5) := by decide

theorem test_ret_z_2 : after [0xC8#8] { base with sp := 0xFFFC#16, mem := [(0xFFFC, 0x03#8), (0xFFFD, 0xC0#8)] }
    (fun t => (t.f, t.pc, t.cycles)) = some (0x00#8, 0xC001#16, some 2) := by decide

theorem test_reti : after [0xD9#8] { base with sp := 0xFFFC#16, mem := [(0xFFFC, 0x50#8), (0xFFFD, 0x01#8)] }
    (fun t => (t.f, t.sp, t.pc, t.ime, t.cycles)) = some (0x00#8, 0xFFFE#16, 0x0150#16, true, some 4) := by decide

theorem test_rst_0x28 : after [0xEF#8] base (fun t => ((t.f, t.sp, t.pc), t.cycles, t.peek 0xFFFD#16, t.peek 0xFFFC#16)) =
    some ((0x00#8, 0xFFFC#16, 0x0028#16), some 4, 0xC0#8, 0x01#8) := by decide

theorem test_nop : after [0x00#8] { base with f := 0xB0#8 } (fun t => (t.f, t.pc, t.cycles)) =
    some (0xB0#8, 0xC001#16, some 1) := by decide

theorem test_halt : after [0x76#8] { base with ifReg := 0x01#8, ieReg := 0x01#8 } (fun t => (t.f, t.pc, t.haltBug, t.cycles)) =
    some (0x00#8, 0xC001#16, true, some 1) := by decide

theorem test_halt_2 : after [0x76#8] { base with ifReg := 0x01#8, ieReg := 0x02#8 } (fun t => (t.f, t.pc, t.halted, t.cycles)) =
    some (0x00#8, 0xC001#16, true, some 1) := by decide

theorem test_stop : after [0x10#8, 0x00#8] base (fun t => (t.f, t.pc, t.fault, t.cycles)) =
    some (0x00#8, 0xC002#16, some .stopUnmodelled, none) := by decide

theorem test_stop_2 : after [0x10#8, 0x00#8] { base with params := { Params.default with stopMode := .nop } }
    (fun t => (t.f, t.pc, t.cycles)) = some (0x00#8, 0xC002#16, some 1) := by decide

theorem test_di : after [0xF3#8] { base with imePending := true } (fun t => (t.f, t.pc, t.imePending, t.cycles)) =
    some (0x00#8, 0xC001#16, false, some 1) := by decide

theorem test_ei : after [0xFB#8] { base with ime := true } (fun t => (t.f, t.pc, t.imePending, t.cycles)) =
    some (0x00#8, 0xC001#16, true, some 1) := by decide

theorem test_unused_d3 : after [0xD3#8] base (fun t => (t.f, t.pc, t.fault, t.cycles)) =
    some (0x00#8, 0xC001#16, some (.unusedOpcode 0xD3#8), none) := by decide

/-- What `after` shows is of the state the step answers. -/
theorem next_of_after {α : Type} {code : List Byte} {start : State} {view : State → α} {v : α}
    (h : after code start view = some v) : ∃ t, step (onCode code start) = .next t ∧ view t = v := by
  unfold after at h
  split at h
  · exact ⟨_, ‹_›, Option.some.inj h⟩
  · cases h

/-- Two instructions one after the other answer next states. -/
theorem exec_twice (i j : Instr) (s : State) : ∃ t u, exec i s = .next t ∧ exec j t = .next u := by
  obtain ⟨t, ht, -⟩ := exec_cases i s
  obtain ⟨u, hu, -⟩ := exec_cases j t
  exact ⟨t, u, ht, hu⟩

/-! ### Witnesses: for every obligation with hypotheses, values that meet them, at the ends of their ranges -/

theorem witness_DecodeOfEncodeIsTheInstruction :
    Instr.wellFormed (.callN16 0xFFFF#16) = true ∧ Instr.wellFormed .set7A = true := by decide

theorem witness_EncodeOfDecodeIsTheBytes :
    decode [0x01#8, 0xFF#8, 0x00#8, 0xD3#8] = .ok (.ldBcN16 0x00FF#16, [0xD3#8]) ∧ decode [0xCB#8, 0xFF#8] = .ok (.set7A, []) :=
  ⟨rfl, rfl⟩

/-- Each length that an opcode needs, with exactly its bytes and with one byte less; and no byte at all. -/
theorem witness_MissingBytesAreNamed :
    decode [] = .error .noOpcode ∧ decode [0x00#8] = .ok (.nop, []) ∧
    decode [0x3E#8] = .error (.truncated 0x3E#8) ∧ decode [0x3E#8, 0xFF#8] = .ok (.ldAN8 0xFF#8, []) ∧
    decode [0xCD#8, 0xFF#8] = .error (.truncated 0xCD#8) ∧ decode [0xCD#8, 0xFF#8, 0x00#8] = .ok (.callN16 0x00FF#16, []) ∧
    decode [0xCB#8] = .error (.truncated 0xCB#8) ∧ decode [0xCB#8, 0x00#8] = .ok (.rlcB, []) :=
  ⟨rfl, rfl, rfl, rfl, rfl, rfl, rfl, rfl⟩

theorem witness_UnusedOpcodesAreTheEleven :
    0xD3#8 ∈ [0xD3#8, 0xDB#8, 0xDD#8, 0xE3#8, 0xE4#8, 0xEB#8, 0xEC#8, 0xED#8, 0xF4#8, 0xFC#8, 0xFD#8] ∧
    (unprefixedDescriptor 0xFD#8).length = 0 ∧ (unprefixedDescriptor 0xFE#8).length ≠ 0 := by decide

theorem witness_EncodedLengthIsTheDescriptors :
    Instr.wellFormed (.ldAtN16Sp 0x0000#16) = true ∧ Instr.wellFormed .unusedFD = true ∧ Instr.wellFormed .rlcB = true := by decide

theorem witness_AlternateDurationOnlyOfConditionals :
    (Instr.retC).descriptor.cyclesNotTaken = some 2 ∧ (Instr.callNzN16 0xFFFF#16).descriptor.cyclesNotTaken = some 3 :=
  ⟨rfl, rfl⟩

theorem witness_EveryInstructionReportsItsDuration :
    Instr.wellFormed (.stop 0xFF#8) = true ∧ Instr.wellFormed (.jrNzE8 0x80#8) = true := by decide

/-- A step that runs an instruction, with the HALT bug armed (the first byte is read twice) and without, at the top of the address
space. -/
theorem witness_StepRunsTheDecodedInstruction :
    let s := onCode [0x3E#8, 0x14#8] { base with pc := 0xFFFD#16 }
    let t := { s with haltBug := true }
    (s.runs ∧ decode (readAll ([0xFFFD#16, 0xFFFE#16, 0xFFFF#16].take 2) s.awake).1 = .ok (.ldAN8 0x14#8, [])) ∧
    t.runs ∧ decode (readAll ([0xFFFD#16, 0xFFFD#16, 0xFFFE#16].take 2) t.awake).1 = .ok (.ldAN8 0x3E#8, []) :=
  ⟨⟨by unfold State.runs State.idle State.serviceable; decide, rfl⟩,
    by unfold State.runs State.idle State.serviceable; decide, rfl⟩

theorem witness_FaultedStateHasNoStep : State.fault { base with fault := some .stopUnmodelled } = some .stopUnmodelled := rfl

theorem witness_UnusedStepEndsInTheFaultState :
    let s := onCode [0xFD#8] { base with halted := true, ifReg := 0x10#8, ieReg := 0x10#8 }
    (s.runs ∧ (unprefixedDescriptor (s.awake.peek s.awake.pc)).length = 0) ∧
    decode [0xCB#8, 0xD3#8] = .ok (.set2E, []) ∧ ∃ t, exec .set2E s = .next t :=
  ⟨⟨by unfold State.runs State.idle State.serviceable; decide, rfl⟩, rfl, _, rfl⟩

theorem witness_HaltedCoreIdlesOrWakes :
    let s := { base with halted := true, ifReg := 0x0F#8, ieReg := 0x10#8 }
    let t := { s with ieReg := 0x1F#8 }
    s.fault = none ∧ s.beginStep.idle ∧ t.fault = none ∧ t.beginStep.halted = true ∧ t.beginStep.pend ≠ 0#8 := by
  unfold State.idle; decide

/-- One state for each clause: nothing pending, an interrupt with ime = 1, an interrupt with ime = 0. The request comes from the
environment. -/
theorem witness_HaltedCoreWakesToServeOrToContinue :
    let s := { base with halted := true, ieReg := 0x10#8 }
    let t := { s with ime := true, schedule := [[.request 4]] }
    let u := { t with ime := false }
    (s.fault = none ∧ s.beginStep.halted = true ∧ s.beginStep.pend = 0#8) ∧
    (t.fault = none ∧ t.beginStep.halted = true ∧ t.beginStep.pend ≠ 0#8 ∧ t.beginStep.ime = true) ∧
    u.fault = none ∧ u.beginStep.halted = true ∧ u.beginStep.pend ≠ 0#8 ∧ u.beginStep.ime = false := by
  decide

/-- A service whose low byte is pushed onto IF, one whose high byte is, and one with the stack at the bottom of the address space. -/
theorem witness_ServiceTakesTheHighestPriority :
    let s := { base with ime := true, ifReg := 0x1F#8, ieReg := 0x11#8 }
    let s1 := { s with sp := 0xFF11#16 }
    let s2 := { s with sp := 0xFF10#16 }
    let s3 := { s with sp := 0x0001#16 }
    s.params.bus = .ram ∧
    (s1.fault = none ∧ s1.beginStep.mem.wf = true ∧ s1.beginStep.serviceable) ∧
    (s2.fault = none ∧ s2.beginStep.mem.wf = true ∧ s2.beginStep.serviceable) ∧
    s3.fault = none ∧ s3.beginStep.mem.wf = true ∧ s3.beginStep.serviceable := by
  unfold State.serviceable; decide

/-- Starts for each clause: an idle state with an enable armed (which no run reaches) and a step that faults with one armed; one
armed, before DI, NOP and a service; none armed, before EI, RETI and NOP, with ime = 0 and 1. -/
theorem witness_ArmedEnableCommitsAtTheEndOfTheStep :
    let armed := { base with imePending := true }
    let on := { base with ime := true }
    let starts (l : List (List Byte × State)) (pending : Bool) : Prop := ∀ x ∈ l, let s := onCode x.1 x.2
      s.fault = none ∧ ¬ s.beginStep.idle ∧ s.imePending = pending ∧ after x.1 x.2 State.fault = some none
    (State.idle (State.beginStep { armed with halted := true }) ∧ after [] { armed with halted := true } State.fault = some none) ∧
    after [0xD3#8] armed State.fault = some (some (.unusedOpcode 0xD3#8)) ∧
    starts [([0xF3#8], armed), ([0x00#8], armed), ([], { armed with ime := true, ifReg := 0x01#8, ieReg := 0x01#8 })] true ∧
    starts [([0xFB#8], base), ([0xFB#8], on), ([0xD9#8], base), ([0x00#8], base), ([0x00#8], on)] false := by
  unfold State.idle; decide

/-- ime from 0 to 1 by RETI and by an armed enable; from 1 to 0 by DI and by a service. -/
theorem witness_OnlyEiAndRetiEnableInterrupts :
    (∃ t, step (onCode [0xD9#8] base) = .next t ∧ t.ime = true) ∧
    (∃ t, step (onCode [0x00#8] { base with imePending := true }) = .next t ∧ t.ime = true) ∧
    (∃ t, step (onCode [0xF3#8] { base with ime := true }) = .next t ∧ t.ime = false) ∧
    ∃ t, step (onCode [] { base with ime := true, ifReg := 0x01#8, ieReg := 0x01#8 }) = .next t ∧ t.ime = false :=
  ⟨next_of_after (by decide), next_of_after (by decide), next_of_after (by decide), next_of_after (by decide)⟩

theorem witness_EiThenNopEnablesAndEiThenDiDoesNot :
    ∀ second ∈ [0x00#8, 0xF3#8],
      let s := onCode [0xFB#8, second] { base with pc := 0xFFFE#16, params := { Params.default with ieAddr := 0xFF1F#16 } }
      (s.fault = none ∧ s.halted = false ∧ s.haltBug = false ∧ s.ime = false ∧ s.imePending = false ∧ s.schedule = [] ∧
        s.peek s.pc = 0xFB#8) ∧ ∃ t, step s = .next t ∧ t.peek t.pc = second := by
  intro second h
  simp only [List.mem_cons, List.not_mem_nil, or_false] at h
  rcases h with rfl | rfl
  · exact ⟨by decide, _, rfl, by decide⟩
  · exact ⟨by decide, _, rfl, by decide⟩

theorem witness_HaltBugReadsTheByteTwice :
    let s := onCode [0x76#8, 0x3E#8, 0x14#8] { base with ifReg := 0x10#8, ieReg := 0x1F#8 }
    (s.fault = none ∧ s.halted = false ∧ s.haltBug = false ∧ s.ime = false ∧ s.imePending = false ∧ s.schedule = [] ∧
      s.pend ≠ 0#8 ∧ s.peek s.pc = 0x76#8) ∧
    (s.params.bus = .ram ∧ s.peek (s.pc + 1#16) = 0x3E#8 ∧ s.peek (s.pc + 2#16) = 0x14#8) ∧
    ∃ t, step s = .next t ∧
      decode (readAll ([s.pc + 1#16, s.pc + 1#16, s.pc + 2#16].take 2) t.awake).1 = .ok (.ldAN8 0x3E#8, []) :=
  ⟨by decide, by decide, _, rfl, rfl⟩

/-- One state for each clause. -/
theorem witness_HaltHaltsOrArmsTheBug :
    let s := { base with ifReg := 0x10#8, ieReg := 0x10#8 }
    let t := { base with ifReg := 0xE0#8, ieReg := 0xFF#8 }
    (s.ime = false ∧ s.ifReg &&& s.ieReg &&& 0x1F#8 ≠ 0#8) ∧ State.ime { s with ime := true } = true ∧
    t.ifReg &&& t.ieReg &&& 0x1F#8 = 0#8 := by decide

theorem witness_StopDoesWhatStopModeSays :
    let s := onCode [0x10#8, 0xFF#8] base
    let t := { s with params := { Params.default with stopMode := .nop } }
    s.params.stopMode = .fault ∧ t.params.stopMode = .nop ∧
    (∀ u ∈ [s, t], u.runs ∧ u.awake.haltBug = false ∧ u.awake.peek u.awake.pc = 0x10#8) := by
  unfold State.runs State.idle State.serviceable; decide

theorem witness_PrefixRunsTheRowOfTheNextByte :
    decode [0xCB#8, (onCode [0xFE#8] base).peek 0xC000#16] = .ok (.set7AtHl, []) ∧
    decode [0xCB#8, base.peek 0xC000#16] = .ok (.rlcB, []) := ⟨rfl, rfl⟩

/-- Each of the four conditions holds in one of these states and fails in the other. -/
theorem witness_conditions :
    (State.flagZ { base with f := 0x90#8 } = true ∧ State.flagC { base with f := 0x90#8 } = true) ∧
    base.flagZ = false ∧ base.flagC = false := by decide

theorem witness_JumpsSetPc :
    (∀ cc : Cond, ∃ s : State, s.cond cc = true) ∧ ∀ cc : Cond, ∃ s : State, s.cond cc = false := by
  constructor <;> intro cc <;> cases cc
  · exact ⟨base, by decide⟩
  · exact ⟨{ base with f := 0x80#8 }, by decide⟩
  · exact ⟨base, by decide⟩
  · exact ⟨{ base with f := 0x10#8 }, by decide⟩
  · exact ⟨{ base with f := 0x80#8 }, by decide⟩
  · exact ⟨base, by decide⟩
  · exact ⟨{ base with f := 0x10#8 }, by decide⟩
  · exact ⟨base, by decide⟩

theorem witness_RelativeJumpsAddTheSignedByte :
    State.cond { base with pc := 0xFFFF#16, f := 0x90#8 } .z = true ∧ State.cond { base with f := 0x90#8 } .nc = false ∧
    State.cond base .nz = true ∧ State.cond base .c = false := by decide

/-- The stack at the bottom of the address space, with both conditions of each flag. -/
theorem witness_CallsPushTheReturnAddress :
    let s := { base with sp := 0x0001#16, mem := [(0x0000, 0xFF#8), (0xFFFE, 0x01#8)] }
    s.mem.wf = true ∧ s.cond .nz = true ∧ s.cond .z = false ∧ s.cond .nc = true ∧ s.cond .c = false := by decide

theorem witness_ReturnsPopThePc :
    let s := { base with sp := 0xFFFF#16, f := 0xF0#8 }
    s.cond .z = true ∧ s.cond .nz = false ∧ s.cond .c = true ∧ s.cond .nc = false := by decide

theorem witness_PushStoresHighThenLow : (State.mem { base with sp := 0x0000#16, mem := [(0xFFFE, 0xFF#8)] }).wf = true := by decide

theorem witness_PopLoadsLowThenHigh : ∃ t, exec .popAf { base with sp := 0xFFFF#16 } = .next t := ⟨_, rfl⟩

/-- The hypothesis of the clauses about `RamBus` (in every statement that has them). -/
theorem witness_ram_clauses : base.params.bus = .ram := rfl

/-- On a platform's bus a read answers what the platform says and IF still answers as IF (R52, R63). -/
theorem test_bus_of_a_platform :
    let s := { base with ifReg := 0xFF#8, params := { Params.default with bus := .platform 3 } }
    (busRead 0x8000#16 s).1 = (Config.platformRead 3 ⟨[], [], 0xFF#8, 0x00#8⟩ 0x8000#16).1 ∧ (busRead 0xFF0F#16 s).1 = 0x1F#8 :=
  ⟨rfl, rfl⟩

theorem witness_PushThenPopRestoresThePair :
    let s := { base with sp := 0x0002#16, a := 0x12#8, f := 0xF0#8 }
    s.params.bus = .ram ∧ s.mem.wf = true ∧ s.f &&& 0x0F#8 = 0#8 ∧
    (∀ a ∈ [s.sp - 1#16, s.sp - 2#16], a ≠ s.params.ifAddr ∧ a ≠ s.params.ieAddr) ∧
    ∃ t u, exec (.ofPush .af) s = .next t ∧ exec (.ofPop .af) t = .next u :=
  ⟨rfl, by decide, by decide, by simp [base, State.reset, State.resetWith, Params.default], exec_twice _ _ _⟩

theorem witness_LoadsAndStoresThroughHl :
    let s := { base with h := 0xFF#8, l := 0xFF#8, mem := [(0xFFFE, 0xFF#8)] }
    s.mem.wf = true ∧ s.hl = s.params.ieAddr := by decide

/-- The clauses on IF_ADDR and IE_ADDR are met by C = 0x0F and by 0xFFFF. -/
theorem witness_AccumulatorLoadsFromAddresses :
    BitVec.ofNat 16 (0xFF00 + (0x0F#8 : Byte).toNat) = base.params.ifAddr ∧ 0xFFFF#16 = base.params.ieAddr ∧
    base.params.ieAddr ≠ base.params.ifAddr := by decide

theorem witness_AccumulatorStoresThroughPairs :
    let s := { base with h := 0x00#8, l := 0x00#8, mem := [(0x0000, 0x01#8)] }
    s.mem.wf = true ∧ s.hl - 1#16 = 0xFFFF#16 := by decide

/-- The clauses on IF_ADDR and IE_ADDR are met by 0xFF00 + 0x0F and by 0xFFFF. -/
theorem witness_AccumulatorStoresToAddresses :
    base.mem.wf = true ∧ BitVec.ofNat 16 (0xFF00 + (0x0F#8 : Byte).toNat) = base.params.ifAddr ∧
    BitVec.ofNat 16 (0xFF00 + (0xFF#8 : Byte).toNat) = base.params.ieAddr ∧ base.params.ieAddr ≠ base.params.ifAddr := by decide

theorem witness_SpIsStoredLowByteFirst : (State.mem { base with sp := 0xABCD#16, mem := [(0x0000, 0x01#8)] }).wf = true := by decide

theorem witness_SpPlusSignedByte :
    (0 : Int) ≤ (0x7F#8 : Byte).toInt ∧ (0x80#8 : Byte).toInt < 0 ∧
    Params.spE8Rule { Params.default with spE8Rule := .unsignedLowByte } = .unsignedLowByte ∧
    Params.default.spE8Rule = .sourcePositiveOnly := by decide

theorem witness_LogicOperationsAndFlags :
    (AluOp.and = .and ∧ and = and) ∧ (AluOp.xor = .xor ∧ Bool.xor = Bool.xor) ∧ AluOp.or = .or ∧ or = or :=
  ⟨⟨rfl, rfl⟩, ⟨rfl, rfl⟩, rfl, rfl⟩

theorem witness_CompareWritesFlagsOnly : ∃ u, exec (.ofAlu .sub (.n8 0xFF#8)) base = .next u := ⟨_, rfl⟩

theorem witness_IncAndDecR8 : (State.mem { base with h := 0xFF#8, l := 0x0F#8, mem := [(0xFF0E, 0xFF#8)] }).wf = true := by decide

/-- One state for each clause, with A at the edge of the digits. -/
theorem witness_DaaAdjustsByTheFlags :
    State.flagN { base with a := 0x9A#8 } = false ∧ State.flagN { base with a := 0x99#8, f := 0x70#8 } = true := by decide

theorem witness_AddThenDaaAddsDecimalNumbers :
    let s := { base with a := 0x99#8, b := 0x99#8 }
    s.a = BitVec.ofNat 8 (16 * (99 / 10) + 99 % 10) ∧ s.b = BitVec.ofNat 8 (16 * (99 / 10) + 99 % 10) ∧
    ∃ t u, exec .addAB s = .next t ∧ exec .daa t = .next u :=
  ⟨by decide, by decide, exec_twice _ _ _⟩

theorem witness_IncAndDecR16SetNoFlags : R16.bc ≠ .sp ∧ R16.hl ≠ .sp := by decide

theorem witness_PrefixedRotatesAndShifts : (State.mem { base with h := 0x00#8, l := 0x00#8, mem := [(0x0000, 0x80#8)] }).wf = true := by
  decide

theorem witness_ResAndSetChangeOneBit : (State.mem { base with h := 0xFF#8, l := 0xFF#8, mem := [(0xFFFE, 0x80#8)] }).wf = true := by
  decide

/-- The invariant holds of a halted state with an interrupt on the way, from which a step goes on; and of the state after reset. -/
theorem witness_EveryStepKeepsTheInvariant :
    let s := { base with halted := true, f := 0xF0#8, ifReg := 0x1F#8, schedule := [[.setIe 0xFF#8]] }
    (s.Inv ∧ ∃ t, step s = .next t) ∧ State.reset.Inv ∧ ∃ t, step State.reset = .next t :=
  ⟨⟨⟨by decide, by decide, by decide, by decide, by decide, by decide⟩, _, rfl⟩,
    ⟨by decide, by decide, by decide, by decide, by decide, by decide⟩, _, rfl⟩

theorem witness_FaultsComeOnlyFromUnusedAndStop :
    (0xFD#8, Instr.unusedFD) ∈ Instr.unusedRows ∧ State.reset.params.stopMode = .fault := by decide

theorem witness_ParametersNeverChange :
    ∃ t, step { base with schedule := [[.setByte 0xFF0F#16 0xFF#8], []] } = .next t := ⟨_, rfl⟩

/-- `RamBus`, and the bus of a platform at the ends of the address space that are not IF or IE. -/
theorem witness_BusMapsIfAndIe :
    let t := { base with params := { Params.default with bus := .platform 0 } }
    (base.params.ifAddr ≠ base.params.ieAddr ∧ base.mem.wf = true ∧ base.params.bus = .ram) ∧
    t.params.ifAddr ≠ t.params.ieAddr ∧ t.mem.wf = true ∧ t.params.bus = .platform 0 ∧
    ∀ a ∈ [0x0000#16, 0xFFFE#16], a ≠ t.params.ifAddr ∧ a ≠ t.params.ieAddr :=
  ⟨⟨by decide, rfl, rfl⟩, by decide, rfl, rfl, by simp [Params.default]⟩

end Sys2Proof.Tests
end

section
/-! The parameters and the environment's plan along a step: what each part of a step leaves of them, and O59. -/

namespace Sys2Proof.Machine

@[simp] theorem endStep_params (due : Bool) (s : State) : (endStep due s).params = s.params := by rw [endStep_eq]
@[simp] theorem endStep_schedule (due : Bool) (s : State) : (endStep due s).schedule = s.schedule := by rw [endStep_eq]

@[simp] theorem serviceInterrupt_params (s : State) : (serviceInterrupt s).params = s.params := by rw [serviceInterrupt_eq]
@[simp] theorem serviceInterrupt_schedule (s : State) : (serviceInterrupt s).schedule = s.schedule := by rw [serviceInterrupt_eq]

@[simp] theorem fetchInstr_params (s : State) : (fetchInstr s).2.params = s.params := by rw [fetchInstr_frame]
@[simp] theorem fetchInstr_schedule (s : State) : (fetchInstr s).2.schedule = s.schedule := by rw [fetchInstr_frame]

@[simp] theorem awake_params (s : State) : s.awake.params = s.params := beginStep_params s
@[simp] theorem awake_schedule (s : State) : s.awake.schedule = s.schedule.tail := beginStep_schedule s

/-- No instruction writes the parameters or the environment's plan, those that write the control state included. -/
theorem exec_params_schedule {i : Instr} {s t : State} (h : exec i s = .next t) :
    t.params = s.params ∧ t.schedule = s.schedule := by
  obtain ⟨u, hu, hc⟩ := exec_cases i s
  rw [h] at hu; cases hu
  rcases hc with p | ⟨-, rfl⟩ | ⟨-, rfl⟩ | ⟨-, rfl⟩ | ⟨-, rfl⟩ | ⟨_, -, rfl⟩ | ⟨_, -, rfl⟩
  · exact ⟨p.params, p.schedule⟩
  · simp [reti, returnFromInterrupt]
  · unfold halt; split <;> exact ⟨rfl, rfl⟩
  · exact ⟨rfl, rfl⟩
  · exact ⟨rfl, rfl⟩
  · unfold stop; split <;> exact ⟨rfl, rfl⟩
  · exact ⟨rfl, rfl⟩

/-- Settles O59: of the three kinds of step, only the environment's part at its start touches the plan, and none the parameters. -/
theorem parametersNeverChange : Obligations.ParametersNeverChange := by
  intro s t h
  obtain ⟨-, ⟨-, rfl⟩ | ⟨-, -, rfl⟩ | ⟨-, u, hu, rfl⟩⟩ := step_cases h
  case inl => simp
  case inr.inl => simp
  case inr.inr =>
    obtain ⟨hp, hs⟩ := exec_params_schedule hu
    simp [hp, hs]

end Sys2Proof.Machine
end

section
/-! The invariant and the interrupt enable along a step: the parts of the invariant about data and those about control, O57 and
O56; who writes ime, O18; the state after reset, O55. -/

namespace Sys2Proof.Machine

/-! ### The control state at each part of a step -/

@[simp] theorem awake_halted (s : State) : s.awake.halted = false := rfl
@[simp] theorem awake_ime (s : State) : s.awake.ime = s.ime := beginStep_ime s
@[simp] theorem awake_imePending (s : State) : s.awake.imePending = s.imePending := beginStep_imePending s
@[simp] theorem awake_fault (s : State) : s.awake.fault = s.fault := beginStep_fault s

@[simp] theorem fetchInstr_halted (s : State) : (fetchInstr s).2.halted = s.halted := by rw [fetchInstr_frame]
@[simp] theorem fetchInstr_ime (s : State) : (fetchInstr s).2.ime = s.ime := by rw [fetchInstr_frame]
@[simp] theorem fetchInstr_imePending (s : State) : (fetchInstr s).2.imePending = s.imePending := by rw [fetchInstr_frame]
@[simp] theorem fetchInstr_haltBug (s : State) : (fetchInstr s).2.haltBug = false := by rw [fetchInstr_frame]
@[simp] theorem fetchInstr_fault (s : State) : (fetchInstr s).2.fault = s.fault := by rw [fetchInstr_frame]

@[simp] theorem serviceInterrupt_halted (s : State) : (serviceInterrupt s).halted = false := by rw [serviceInterrupt_eq]
@[simp] theorem serviceInterrupt_ime (s : State) : (serviceInterrupt s).ime = false := by rw [serviceInterrupt_eq]
@[simp] theorem serviceInterrupt_fault (s : State) : (serviceInterrupt s).fault = s.fault := by rw [serviceInterrupt_eq]

@[simp] theorem endStep_halted (due : Bool) (s : State) : (endStep due s).halted = s.halted := by rw [endStep_eq]
@[simp] theorem endStep_haltBug (due : Bool) (s : State) : (endStep due s).haltBug = s.haltBug := by rw [endStep_eq]
@[simp] theorem endStep_fault (due : Bool) (s : State) : (endStep due s).fault = s.fault := by rw [endStep_eq]

/-- ime after the end of a step: as the step left it, or set by the commit of an enable that was due (R110). -/
theorem endStep_ime (due : Bool) (s : State) : (endStep due s).ime = (s.ime || (due && s.imePending && s.fault.isNone)) := by
  rw [endStep_eq]

/-- The end of a step that raised no fault commits or leaves cancelled every enable that was due (R110). -/
theorem endStep_imePending (due : Bool) (s : State) :
    (endStep due s).imePending = (s.imePending && !(due && s.fault.isNone)) := by
  rw [endStep_eq]

/-! ### The parts of the invariant about data -/

/-- The parts of the invariant about F, IF, IE and memory, which no part of a step gives up at any point. -/
structure State.SoundData (s : State) : Prop where
  flagsLow : s.f &&& 0x0F#8 = 0#8
  ifTop    : s.ifReg &&& 0xE0#8 = 0#8
  ieTop    : s.ieReg &&& 0xE0#8 = 0#8
  memory   : s.mem.wf = true

theorem State.Inv.soundData {s : State} (h : s.Inv) : s.SoundData := ⟨h.flagsLow, h.ifTop, h.ieTop, h.memory⟩

theorem Plain.soundData {s t : State} (p : Plain s t) (h : s.SoundData) : t.SoundData :=
  ⟨p.flagsLow h.flagsLow, p.ifTop h.ifTop, p.ieTop h.ieTop, p.memory h.memory⟩

theorem soundData_beginStep {s : State} (h : s.SoundData) : s.beginStep.SoundData := by
  obtain ⟨hi, he, hm⟩ := beginStep_sound s
  exact ⟨by rw [beginStep_f]; exact h.flagsLow, hi h.ifTop, he h.ieTop, hm h.memory⟩

theorem soundData_awake {s : State} (h : s.SoundData) : s.awake.SoundData :=
  have hb := soundData_beginStep h
  ⟨hb.flagsLow, hb.ifTop, hb.ieTop, hb.memory⟩

theorem soundData_fetchInstr {s : State} (h : s.SoundData) : (fetchInstr s).2.SoundData := by
  have hm := fetchInstr_wf s h.memory
  rw [fetchInstr_frame]
  exact ⟨h.flagsLow, h.ifTop, h.ieTop, hm⟩

theorem soundData_serviceInterrupt {s : State} (h : s.SoundData) : (serviceInterrupt s).SoundData := by
  obtain ⟨hf, hi, he, hm⟩ := serviceInterrupt_sound s
  exact ⟨by rw [hf]; exact h.flagsLow, hi, he h.ieTop, hm h.memory⟩

theorem soundData_endStep {s : State} (due : Bool) (h : s.SoundData) : (endStep due s).SoundData := by
  rw [endStep_eq]
  exact ⟨h.flagsLow, h.ifTop, h.ieTop, h.memory⟩

/-- Every instruction keeps the data sound: of those that write the control state only RETI accesses memory, to pop PC. -/
theorem soundData_exec {i : Instr} {s t : State} (h : exec i s = .next t) (hs : s.SoundData) : t.SoundData := by
  obtain ⟨u, hu, hc⟩ := exec_cases i s
  rw [h] at hu; cases hu
  rcases hc with p | ⟨-, rfl⟩ | ⟨-, rfl⟩ | ⟨-, rfl⟩ | ⟨-, rfl⟩ | ⟨_, -, rfl⟩ | ⟨_, -, rfl⟩
  · exact p.soundData hs
  · have hp := (plain_pop16 s).soundData hs
    exact ⟨hp.flagsLow, hp.ifTop, hp.ieTop, hp.memory⟩
  · unfold halt; split <;> exact ⟨hs.flagsLow, hs.ifTop, hs.ieTop, hs.memory⟩
  · exact ⟨hs.flagsLow, hs.ifTop, hs.ieTop, hs.memory⟩
  · exact ⟨hs.flagsLow, hs.ifTop, hs.ieTop, hs.memory⟩
  · unfold stop; split <;> exact ⟨hs.flagsLow, hs.ifTop, hs.ieTop, hs.memory⟩
  · exact ⟨hs.flagsLow, hs.ifTop, hs.ieTop, hs.memory⟩

/-! ### The parts of the invariant about control -/

/-- No instruction raises IllegalOperand (R312): the faults raised are UnusedOpcode and StopUnmodelled. -/
theorem exec_fault_ne_illegalOperand {i : Instr} {s t : State} (h : exec i s = .next t) (hs : s.fault = none) :
    t.fault ≠ some .illegalOperand := by
  obtain ⟨u, hu, hc⟩ := exec_cases i s
  rw [h] at hu; cases hu
  rcases hc with p | ⟨-, rfl⟩ | ⟨-, rfl⟩ | ⟨-, rfl⟩ | ⟨-, rfl⟩ | ⟨_, -, rfl⟩ | ⟨_, -, rfl⟩
  · simp [p.fault, hs]
  · simp [reti, returnFromInterrupt, hs]
  · unfold halt; split <;> simp [hs]
  · simp [disableInterrupts, hs]
  · simp [armEnable, hs]
  · unfold stop; split <;> simp [hs]
  · simp

/-- An instruction that halts a running core is HALT, and it does nothing else to the state (R271). -/
theorem eq_halted_of_exec {i : Instr} {s t : State} (h : exec i s = .next t) (hs : s.halted = false) (ht : t.halted = true) :
    t = { s with halted := true, cycles := some 1 } := by
  obtain ⟨u, hu, hc⟩ := exec_cases i s
  rw [h] at hu; cases hu
  rcases hc with p | ⟨-, rfl⟩ | ⟨-, rfl⟩ | ⟨-, rfl⟩ | ⟨-, rfl⟩ | ⟨_, -, rfl⟩ | ⟨_, -, rfl⟩
  case inr.inr.inl =>
    unfold halt at ht ⊢
    split at ht
    · simp [hs] at ht
    · next hn => rw [if_neg hn]; rfl
  · simp [p.halted, hs] at ht
  · simp [reti, returnFromInterrupt, hs] at ht
  · simp [disableInterrupts, hs] at ht
  · simp [armEnable, hs] at ht
  · unfold stop at ht; split at ht <;> simp [hs] at ht
  · simp [hs] at ht

/-- An enable armed before a step that halts the core is committed at its end, and the fetch of HALT has disarmed the HALT bug
(R103, R110, R271). -/
theorem haltedIdle_of_runs {s u : State} (hf : s.fault = none) (hu : exec s.nextInstr (fetchInstr s.awake).2 = .next u)
    (hh : u.halted = true) : (endStep s.imePending u).imePending = false ∧ (endStep s.imePending u).haltBug = false := by
  rw [eq_halted_of_exec hu (by simp) hh]
  simp [endStep_imePending, hf]

/-- Settles O57: by the kinds of step, of which only HALT and the idle step end in a halted core. -/
theorem everyStepKeepsTheInvariant : Obligations.EveryStepKeepsTheInvariant := by
  intro s t hs h
  obtain ⟨hf, ⟨-, rfl⟩ | ⟨-, -, rfl⟩ | ⟨-, u, hu, rfl⟩⟩ := step_cases h
  case inl =>
    have hd := (plain_finish s.beginStep 1).soundData (soundData_beginStep hs.soundData)
    exact ⟨hd.flagsLow, hd.ifTop, hd.ieTop, hd.memory, by simpa using hs.haltedIdle, by simp [hf]⟩
  case inr.inl =>
    have hd := soundData_endStep s.imePending (soundData_serviceInterrupt (soundData_awake hs.soundData))
    exact ⟨hd.flagsLow, hd.ifTop, hd.ieTop, hd.memory, by simp, by simp [hf]⟩
  case inr.inr =>
    have hd := soundData_endStep s.imePending (soundData_exec hu (soundData_fetchInstr (soundData_awake hs.soundData)))
    have hfault := exec_fault_ne_illegalOperand hu (by simpa using hf)
    refine ⟨hd.flagsLow, hd.ifTop, hd.ieTop, hd.memory, fun hh => ?_, by simpa using hfault⟩
    exact haltedIdle_of_runs hf hu (by simpa using hh)

/-! ### Who writes ime -/

/-- The end of a step sets ime only when an enable was due (R110). -/
theorem ime_or_due_of_endStep {due : Bool} {s : State} (h : (endStep due s).ime = true) : s.ime = true ∨ due = true := by
  rw [endStep_ime] at h
  simp only [Bool.or_eq_true, Bool.and_eq_true] at h
  exact h.imp_right fun hd => hd.1.1

/-- The end of a step never clears ime (R110). -/
theorem ime_of_endStep_ime_false {due : Bool} {s : State} (h : (endStep due s).ime = false) : s.ime = false := by
  rw [endStep_ime] at h
  exact (Bool.or_eq_false_iff.mp h).1

/-- Only RETI sets ime while it runs (R30, R250). -/
theorem eq_reti_of_exec {i : Instr} {s t : State} (h : exec i s = .next t) (hs : s.ime = false) (ht : t.ime = true) :
    i = .reti := by
  by_contra hr
  rw [exec_ime h, if_neg hr, hs, ite_self] at ht
  cases ht

/-- Only DI clears ime while it runs (R30, R273). -/
theorem eq_di_of_exec {i : Instr} {s t : State} (h : exec i s = .next t) (hs : s.ime = true) (ht : t.ime = false) :
    i = .di := by
  by_contra hd
  rw [exec_ime h, if_neg hd, hs, ite_self] at ht
  cases ht

/-- Settles O18: an idle step leaves ime, a service clears it, of the instructions RETI sets and DI clears it, and the end of the
step sets it only when an enable was armed before. -/
theorem onlyEiAndRetiEnableInterrupts : Obligations.OnlyEiAndRetiEnableInterrupts := by
  intro s t h
  obtain ⟨-, ⟨-, rfl⟩ | ⟨hi, hsv, rfl⟩ | ⟨hr, u, hu, rfl⟩⟩ := step_cases h
  case inl =>
    have hkeep : (s.beginStep.finish 1).ime = s.ime := beginStep_ime s
    rw [hkeep]
    exact ⟨fun h0 h1 => absurd (h0.symm.trans h1) (by decide), fun h1 h0 => absurd (h0.symm.trans h1) (by decide)⟩
  case inr.inl =>
    exact ⟨fun _ ht => .inl ((ime_or_due_of_endStep ht).resolve_left (by simp)), fun _ _ => .inl ⟨hi, hsv⟩⟩
  case inr.inr =>
    have hfetched : (fetchInstr s.awake).2.ime = s.ime := by simp
    constructor
    · intro h0 ht
      rcases ime_or_due_of_endStep ht with hset | hdue
      · exact .inr ⟨hr, eq_reti_of_exec hu (hfetched.trans h0) hset⟩
      · exact .inl hdue
    · intro h1 ht
      exact .inr ⟨hr, eq_di_of_exec hu (hfetched.trans h1) (ime_of_endStep_ime_false ht)⟩

/-! ### The state after reset -/

@[simp] theorem resetWith_f (p : Params) : (State.resetWith p).f = 0xB0#8 := rfl

/-- A five-bit value as a byte has bits 7..5 clear. -/
theorem setWidth5_top (v : BitVec 5) : v.setWidth 8 &&& 0xE0#8 = 0#8 := by
  have all : ∀ v : BitVec 5, v.setWidth 8 &&& 0xE0#8 = 0#8 := by decide
  exact all v

/-- Settles O56: IF and IE are five-bit parameters, memory lists nothing, and the core runs. -/
theorem invariantHoldsAtReset : Obligations.InvariantHoldsAtReset := fun p =>
  { flagsLow := by rw [resetWith_f]; decide
    ifTop := setWidth5_top p.ifReset
    ieTop := setWidth5_top p.ieReset
    memory := rfl
    haltedIdle := nofun
    noIllegal := nofun }

/-- The first step after reset fetches an instruction. -/
theorem runs_resetWith (p : Params) : (State.resetWith p).runs := runs_of_plain rfl rfl rfl

/-- F after reset holds Z=1, N=0, H=1, C=1 (R25, R36). -/
theorem flags_resetWith (p : Params) : (State.resetWith p).flags = ⟨true, false, true, true⟩ := by
  simp only [State.flags, State.flagZ, State.flagN, State.flagH, State.flagC, resetWith_f]
  decide

/-- The opcode fetch after reset is one bus read, at 0x0100 (R36, R341). -/
theorem fetchOpcode_resetWith_bus (p : Params) : (fetchOpcode (State.resetWith p).awake).2.bus =
    [.read 0x0100#16 ((State.resetWith p).peek 0x0100#16)] := by
  rw [awake_of_plain rfl rfl, fetchOpcode_eq]
  rfl

/-- Settles O55: the registers by reset's own definition, then the first fetch. -/
theorem resetLeavesThePostBootValues : Obligations.ResetLeavesThePostBootValues := by
  intro p
  have hif : (State.resetWith p).ifReg.toNat = p.ifReset.toNat := BitVec.toNat_setWidth_of_le (by decide)
  have hie : (State.resetWith p).ieReg.toNat = p.ieReset.toNat := BitVec.toNat_setWidth_of_le (by decide)
  have hfl := flags_resetWith p
  exact ⟨rfl, rfl, rfl, rfl, rfl, rfl, rfl, rfl, rfl, rfl, rfl, rfl, rfl, rfl, rfl, hif, hie,
    congrArg Flags.z hfl, congrArg Flags.n hfl, congrArg Flags.h hfl, congrArg Flags.c hfl,
    runs_resetWith p, fetchOpcode_resetWith_bus p, rfl⟩

end Sys2Proof.Machine
end

section
/-! The bus and the stack: what one access leaves in each field of the state, under `RamBus` and under the bus of a platform, O60;
the instructions PUSH, O29, and POP, O30. -/

namespace Sys2Proof.Machine

/-! ### One access of the bus, by the fields it changes -/

/-- A bus read, from the byte it answers and what it leaves of memory and of the peripherals (R51). -/
theorem busRead_of_fields {s : State} {addr : Word} {v : Byte} {m : Memory} {d : List Byte} (hv : s.peek addr = v)
    (hm : (s.afterRead addr).mem = m) (hd : (s.afterRead addr).device = d) :
    busRead addr s = (v, { s with mem := m, device := d, bus := s.bus ++ [.read addr v] }) := by
  rw [busRead_eq, hv, hm, hd]

/-- A bus write, from what it leaves of memory, of the peripherals, in IF and in IE (R51, R63). -/
theorem busWrite_of_fields {s : State} {addr : Word} {v i e : Byte} {m : Memory} {d : List Byte}
    (hm : (busWrite addr v s).mem = m) (hd : (busWrite addr v s).device = d)
    (hi : (busWrite addr v s).ifReg = i) (he : (busWrite addr v s).ieReg = e) :
    busWrite addr v s = { s with mem := m, device := d, ifReg := i, ieReg := e, bus := s.bus ++ [.write addr v] } := by
  subst hm hd hi he
  rfl

/-- IE after a write, where IF_ADDR and IE_ADDR are two addresses (R63; log 5). -/
theorem ieReg_of_busWrite_of_ne {s : State} (h : s.params.ifAddr ≠ s.params.ieAddr) (addr : Word) (v : Byte) :
    (busWrite addr v s).ieReg = if addr = s.params.ieAddr then irqBits v else s.ieReg := by
  have hand : addr = s.params.ieAddr ∧ addr ≠ s.params.ifAddr ↔ addr = s.params.ieAddr :=
    and_iff_left_of_imp fun ha hi => h (hi.symm.trans ha)
  rw [ieReg_of_busWrite, if_congr hand rfl rfl]

/-! ### RamBus -/

/-- Under `RamBus` a write leaves what the peripherals hold (R52). -/
theorem busWrite_device_ram {s : State} (hr : s.params.bus = .ram) (addr : Word) (v : Byte) :
    (busWrite addr v s).device = s.device := by
  show (envWrite s.params s.busEnv addr v).device = s.device
  rw [envWrite_ram hr, envStore]
  split_ifs
  · exact irqWrite_device ..
  · rfl

/-- Under `RamBus` the byte at each address after a write: the byte written, or the byte that was there (R52, R63). -/
theorem peek_busWrite_ram {s : State} (hr : s.params.bus = .ram) (hw : s.mem.wf = true) (addr b : Word) (v : Byte) :
    (busWrite addr v s).peek b = if b = addr then s.stored addr v else s.peek b := by
  split_ifs with hb
  · rw [hb, peek_busWrite_same hr addr v hw]
  · exact peek_busWrite_other hr addr b v hb

/-! ### The bus of a platform -/

/-- A read of a platform's bus: its byte but at IF and IE, and its side effects (R52, D4). -/
theorem envRead_platform {p : Params} {n : Nat} (h : p.bus = .platform n) (env : BusEnv) (a : Word) :
    envRead p env a = (irqRead p env a (Config.platformRead n env a).1, envEffect env (Config.platformRead n env a).2) := by
  rw [envRead, h]

/-- A write of a platform's bus: IF or IE where it is of them, and the platform's side effects (R52, D4). -/
theorem envWrite_platform {p : Params} {n : Nat} (h : p.bus = .platform n) (env : BusEnv) (a : Word) (v : Byte) :
    envWrite p env a v = envEffect (irqWrite p env a v) (Config.platformWrite n env a v) := by
  rw [envWrite, h]

/-- A bus read on a platform (R52, R63). -/
theorem busRead_platform {s : State} {n : Nat} (h : s.params.bus = .platform n) (addr : Word) :
    busRead addr s = (irqRead s.params s.busEnv addr (Config.platformRead n s.busEnv addr).1,
      { s with
        mem := s.mem.apply (Config.platformRead n s.busEnv addr).2.bytes
        device := (Config.platformRead n s.busEnv addr).2.device
        bus := s.bus ++ [.read addr (irqRead s.params s.busEnv addr (Config.platformRead n s.busEnv addr).1)] }) := by
  refine busRead_of_fields ?_ ?_ ?_
  · rw [State.peek, envRead_platform h]
  · rw [State.afterRead, envRead_platform h]; rfl
  · rw [State.afterRead, envRead_platform h]; rfl

/-- What a bus write on a platform leaves in memory (R52). -/
theorem busWrite_mem_platform {s : State} {n : Nat} (h : s.params.bus = .platform n) (addr : Word) (v : Byte) :
    (busWrite addr v s).mem = s.mem.apply (Config.platformWrite n s.busEnv addr v).bytes := by
  show (envWrite s.params s.busEnv addr v).mem = _
  rw [envWrite_platform h, envEffect, irqWrite_mem]
  rfl

/-- What a bus write on a platform leaves in the peripherals (R52). -/
theorem busWrite_device_platform {s : State} {n : Nat} (h : s.params.bus = .platform n) (addr : Word) (v : Byte) :
    (busWrite addr v s).device = (Config.platformWrite n s.busEnv addr v).device := by
  show (envWrite s.params s.busEnv addr v).device = _
  rw [envWrite_platform h, envEffect]

/-- Settles O60: IF and IE whatever the bus, then each kind of bus by the fields that its accesses change. -/
theorem busMapsIfAndIe : Obligations.BusMapsIfAndIe := by
  refine ⟨⟨rfl, rfl⟩, fun s hne hw => ⟨⟨peek_ifAddr s, peek_ieAddr s hne.symm⟩,
    fun a => ⟨busRead_ifReg s a, busRead_ieReg s a⟩, fun a v => ?_⟩⟩
  have hi := ifReg_of_busWrite s a v
  have he := ieReg_of_busWrite_of_ne hne a v
  refine ⟨⟨hi, he⟩, fun hr => ⟨busRead_ram hr a, fun b => peek_busWrite_ram hr hw a b v, ?_⟩,
    fun n hn => ⟨busRead_platform hn a, ?_⟩⟩
  · exact busWrite_of_fields rfl (busWrite_device_ram hr a v) hi he
  · exact busWrite_of_fields (busWrite_mem_platform hn a v) (busWrite_device_platform hn a v) hi he

/-! ### PUSH -/

/-- What `Push16` did is still so when only the cycle count is written after it. -/
theorem Pushed.finish {s t : State} {v : Word} (p : Pushed s t v) (n : Nat) : Pushed s (t.finish n) v where
  sp := p.sp
  env := ⟨p.env.env, p.env.bus⟩
  high := p.high
  low := p.low
  bytes := p.bytes.congr rfl rfl

/-- PUSH pushes its pair (R221). -/
theorem pushR16_pushed (rr : R16stk) (n : Nat) (s : State) (h : s.mem.wf = true) : Pushed s (pushR16 rr n s) (s.r16stk rr) :=
  (push16_pushed s (s.r16stk rr) h).finish n

/-- Settles O29: PUSH is `Push16` of the pair, which leaves the registers and the control state. -/
theorem pushStoresHighThenLow : Obligations.PushStoresHighThenLow := by
  intro rr s hw
  have hpushed := pushR16_pushed rr 4 s hw
  have hcontrol := (plain_pushR16 s rr 4).toKeepsControl
  refine ⟨pushR16 rr 4 s, exec_ofPush rr s, ?_, push16_pc s (s.r16stk rr), rfl, fun r _ => ?_, push16_f s (s.r16stk rr),
    hcontrol⟩
  · cases rr <;> exact hpushed
  · rw [pushR16, reg_finish, reg_push16]

/-! ### POP -/

/-- The high byte of the word on the stack is the byte of the second read (R56). -/
theorem hiByte_stackTop (s : State) : hiByte s.stackTop = (busRead (s.sp + 1#16) (busRead s.sp s).2).1 := hiByte_joinBytes _ _

/-- The low byte of the word on the stack is the byte of the first read (R56). -/
theorem loByte_stackTop (s : State) : loByte s.stackTop = (busRead s.sp s).1 := loByte_joinBytes _ _

/-- POP makes the two bus reads, moves SP and writes the word that was read to its pair (R222). -/
theorem popR16_eq (rr : R16stk) (n : Nat) (s : State) :
    popR16 rr n s = (State.setR16stk { s.popAfter with sp := s.sp + 2#16 } rr s.stackTop).finish n := by
  rw [popR16, pop16_eq]

/-- Where F is a byte with bits 3..0 cleared, as after POP AF: the flags are bits 7..4 of that byte, and bits 3..0 of F are 0
(R24, R222). -/
theorem flags_of_masked {t : State} {v : Byte} (h : t.f = v &&& 0xF0#8) :
    t.flagZ = v.getLsbD 7 ∧ t.flagN = v.getLsbD 6 ∧ t.flagH = v.getLsbD 5 ∧ t.flagC = v.getLsbD 4 ∧ t.f &&& 0x0F#8 = 0#8 := by
  have hbit : ∀ k, t.f.getLsbD k = (v.getLsbD k && (0xF0#8).getLsbD k) := fun k => by rw [h, BitVec.getLsbD_and]
  refine ⟨(hbit 7).trans (Bool.and_true _), (hbit 6).trans (Bool.and_true _), (hbit 5).trans (Bool.and_true _),
    (hbit 4).trans (Bool.and_true _), ?_⟩
  rw [h, and_f0_low]

/-- Settles O30: POP is the two reads of `Pop16` and a write of the pair, whose halves are the bytes read. -/
theorem popLoadsLowThenHigh : Obligations.PopLoadsLowThenHigh := by
  intro s first second lo hi popped
  have hhi : hiByte s.stackTop = hi := hiByte_stackTop s
  have hlo : loByte s.stackTop = lo := loByte_stackTop s
  have hpop : ∀ rr, exec (.ofPop rr) s = .next ((State.setR16stk { s.popAfter with sp := s.sp + 2#16 } rr s.stackTop).finish 3) :=
    fun rr => (exec_ofPop rr s).trans (congrArg _ (popR16_eq rr 3 s))
  have haf : exec .popAf s = .next { popped with a := hi, f := lo &&& 0xF0#8 } := by
    rw [← hhi, ← hlo]; exact hpop .af
  refine ⟨(keepsBytes_popAfter s).congr rfl rfl, ?_, ?_, ?_, haf, fun t ht => flags_of_masked ?_⟩
  · rw [← hhi, ← hlo]; exact hpop .bc
  · rw [← hhi, ← hlo]; exact hpop .de
  · rw [← hhi, ← hlo]; exact hpop .hl
  · rw [haf] at ht; cases ht; rfl

end Sys2Proof.Machine
end

section
/-! The decoder and the encoder (spec 30_encoding.md): what `decode` answers from each kind of row, the round trips, O2 and O1, and
what rests on them: missing bytes, O7, the UNUSED opcodes, O6, lengths, O8, and alternate durations, O9; then the maps by their
fields, O4 and O5, and words written out, O3. -/

namespace Sys2Proof

open Machine

/-! ### A row of the unprefixed map and the bytes after its opcode -/

/-- How many bytes follow the opcode of a row (R70): its operand, or the second opcode byte. -/
def Slot.operandBytes : Slot → Nat
  | .op _ => 0
  | .imm8 _ => 1
  | .imm16 _ => 2
  | .cbPrefix => 1

/-- A row, the bytes that follow its opcode (R71: low byte first) and the instruction that they make. -/
inductive Slot.Answers : Slot → List Byte → Instr → Prop
  | op (i : Instr) : Answers (.op i) [] i
  | imm8 (mk : Byte → Instr) (n : Byte) : Answers (.imm8 mk) [n] (mk n)
  | imm16 (mk : Word → Instr) (lo hi : Byte) : Answers (.imm16 mk) [lo, hi] (mk (joinBytes hi lo))
  | cbPrefix (op2 : Byte) : Answers .cbPrefix [op2] (cbInstr op2)

theorem Slot.Answers.length_eq {s : Slot} {operand : List Byte} {i : Instr} (h : s.Answers operand i) :
    operand.length = s.operandBytes := by
  cases h <;> rfl

theorem Slot.exists_answers_take (s : Slot) {tail : List Byte} (h : s.operandBytes ≤ tail.length) :
    ∃ i, s.Answers (tail.take s.operandBytes) i := by
  match s, tail, h with
  | .op i, _, _ => exact ⟨i, .op i⟩
  | .imm8 mk, n :: _, _ => exact ⟨mk n, .imm8 mk n⟩
  | .imm16 mk, lo :: hi :: _, _ => exact ⟨_, .imm16 mk lo hi⟩
  | .cbPrefix, op2 :: _, _ => exact ⟨_, .cbPrefix op2⟩

/-! ### What `decode` answers -/

theorem decode_of_answers {op : Byte} {operand : List Byte} {i : Instr}
    (h : (unprefixedDescriptor op).slot.Answers operand i) (rest : List Byte) :
    decode (op :: (operand ++ rest)) = .ok (i, rest) := by
  generalize hs : (unprefixedDescriptor op).slot = s at h
  cases h <;> simp only [decode, hs, List.cons_append, List.nil_append]

theorem decode_of_lt_operandBytes {op : Byte} {tail : List Byte} (h : tail.length < (unprefixedDescriptor op).slot.operandBytes) :
    decode (op :: tail) = .error (.truncated op) := by
  generalize hs : (unprefixedDescriptor op).slot = s at h
  match s, tail, h with
  | .imm8 _, [], _ | .imm16 _, [], _ | .imm16 _, [_], _ | .cbPrefix, [], _ => simp only [decode, hs]
  | .imm8 _, _ :: _, h | .imm16 _, _ :: _ :: _, h | .cbPrefix, _ :: _, h => simp [Slot.operandBytes] at h

theorem decode_of_operandBytes_le {op : Byte} {tail : List Byte} (h : (unprefixedDescriptor op).slot.operandBytes ≤ tail.length) :
    ∃ i, (unprefixedDescriptor op).slot.Answers (tail.take (unprefixedDescriptor op).slot.operandBytes) i ∧
      decode (op :: tail) = .ok (i, tail.drop (unprefixedDescriptor op).slot.operandBytes) := by
  obtain ⟨i, hi⟩ := Slot.exists_answers_take _ h
  have hd := decode_of_answers hi (tail.drop (unprefixedDescriptor op).slot.operandBytes)
  rw [List.take_append_drop] at hd
  exact ⟨i, hi, hd⟩

/-- Where an answer of `decode` comes from: the row of the first byte, and as many bytes after it as the row takes. -/
theorem answers_of_decode {bs rest : List Byte} {i : Instr} (h : decode bs = .ok (i, rest)) :
    ∃ op operand, bs = op :: (operand ++ rest) ∧ (unprefixedDescriptor op).slot.Answers operand i := by
  cases bs with
  | nil => cases h
  | cons op tail =>
    by_cases hlen : (unprefixedDescriptor op).slot.operandBytes ≤ tail.length
    · obtain ⟨j, hj, hd⟩ := decode_of_operandBytes_le hlen
      rw [hd] at h; cases h
      exact ⟨op, _, by rw [List.take_append_drop], hj⟩
    · rw [decode_of_lt_operandBytes (Nat.lt_of_not_le hlen)] at h; cases h

/-! ### The round trips -/

/-- What a row answers is well-formed, and is encoded as the opcode of the row and the bytes that it was made of. -/
theorem encode_of_answers {op : Byte} {operand : List Byte} {i : Instr}
    (h : (unprefixedDescriptor op).slot.Answers operand i) : i.wellFormed = true ∧ encode i = op :: operand := by
  have henc := unprefixedDescriptor_encodesAs op
  generalize (unprefixedDescriptor op).slot = s at h henc
  cases h with
  | op i => exact henc
  | imm8 mk n => exact henc n
  | imm16 mk lo hi =>
    obtain ⟨hwf, he⟩ := henc (joinBytes hi lo)
    rw [loByte_joinBytes, hiByte_joinBytes] at he
    exact ⟨hwf, he⟩
  | cbPrefix op2 =>
    obtain rfl : op = 0xCB#8 := henc
    exact cbInstr_encodesAs op2

/-- Settles O2: an answer comes from a row, and the instruction of a row is encoded as the bytes it is read from. -/
theorem encodeOfDecodeIsTheBytes : Obligations.EncodeOfDecodeIsTheBytes := by
  intro bs i rest h
  obtain ⟨op, operand, rfl, hans⟩ := answers_of_decode h
  obtain ⟨hwf, henc⟩ := encode_of_answers hans
  exact ⟨hwf, by rw [henc, List.cons_append]⟩

/-- Three bytes whose last two are the halves of a word (R71). -/
theorem decode_word {op : Byte} {mk : Word → Instr} (h : (unprefixedDescriptor op).slot = .imm16 mk) (n : Word)
    (rest : List Byte) : decode (op :: loByte n :: hiByte n :: rest) = .ok (mk n, rest) := by
  have hans := Slot.Answers.imm16 mk (loByte n) (hiByte n)
  rw [joinBytes_hi_lo, ← h] at hans
  exact decode_of_answers hans rest

/-- Settles O1: row by row of the encoder, since it shares no table with the decoder; the decoder computes, but for the words, which
it joins again from their halves. -/
theorem decodeOfEncodeIsTheInstruction : Obligations.DecodeOfEncodeIsTheInstruction := by
  intro i rest hwf
  cases i
  case prefixCb => cases hwf
  case ldBcN16 n | ldDeN16 n | ldHlN16 n | ldSpN16 n => exact decode_word rfl n rest
  case ldAtN16Sp n | ldAtN16A n | ldAAtN16 n => exact decode_word rfl n rest
  case jpN16 n | jpNzN16 n | jpZN16 n | jpNcN16 n | jpCN16 n => exact decode_word rfl n rest
  case callN16 n | callNzN16 n | callZN16 n | callNcN16 n | callCN16 n => exact decode_word rfl n rest
  all_goals rfl

/-- Every well-formed instruction stands in a row of the map, its encoding being the row's opcode and the bytes after it. -/
theorem exists_row {i : Instr} (h : i.wellFormed = true) :
    ∃ op operand, encode i = op :: operand ∧ (unprefixedDescriptor op).slot.Answers operand i := by
  obtain ⟨op, operand, henc, hans⟩ := answers_of_decode (decodeOfEncodeIsTheInstruction i [] h)
  exact ⟨op, operand, by simpa using henc, hans⟩

/-! ### Missing bytes -/

/-- Settles O7: the bytes after the opcode are either fewer than its row takes, and decoding is refused, or enough, and an
instruction is answered; the two answers exclude each other. -/
theorem missingBytesAreNamed : Obligations.MissingBytesAreNamed := by
  refine ⟨rfl, fun op rest => ?_⟩
  show (rest.length < (unprefixedDescriptor op).slot.operandBytes ↔ _) ∧
    ((unprefixedDescriptor op).slot.operandBytes ≤ rest.length ↔
      ∃ i, _ = Except.ok (i, rest.drop (unprefixedDescriptor op).slot.operandBytes))
  rcases Nat.lt_or_ge rest.length (unprefixedDescriptor op).slot.operandBytes with hlt | hle
  · have hd := decode_of_lt_operandBytes hlt
    simp [hd, hlt]
  · obtain ⟨i, -, hd⟩ := decode_of_operandBytes_le hle
    simp [hd, hle]

/-! ### The UNUSED opcodes -/

/-- A row of R86: its cell of the map, with no length and no duration, and its meaning (R276). -/
theorem unusedRow {op : Byte} {i : Instr} (h : (op, i) ∈ Instr.unusedRows) :
    (unprefixedDescriptor op).slot = .op i ∧ (unprefixedDescriptor op).length = 0 ∧ (unprefixedDescriptor op).cycles = 0 ∧
      ∀ s, exec i s = .next (s.raise (.unusedOpcode op)) := by
  unfold Instr.unusedRows at h
  fin_cases h <;> exact ⟨rfl, rfl, rfl, fun _ => rfl⟩

theorem exists_unusedRow {op : Byte} (h : op ∈ Instr.unusedRows.map (·.1)) : ∃ i, (op, i) ∈ Instr.unusedRows := by
  obtain ⟨⟨_, i⟩, hrow, rfl⟩ := List.mem_map.mp h
  exact ⟨i, hrow⟩

set_option maxRecDepth 4000 in
/-- Off the byte 0xCB and the UNUSED opcodes, the length of a row (R70) is the opcode and the bytes after it. -/
theorem eq_0xCB_or_unused_or_length_eq (op : Byte) : op = 0xCB#8 ∨ op ∈ Instr.unusedRows.map (·.1) ∨
    (unprefixedDescriptor op).length = (unprefixedDescriptor op).slot.operandBytes + 1 := by
  revert op
  decide

theorem length_eq_zero_iff_unused (op : Byte) : op ∈ Instr.unusedRows.map (·.1) ↔ (unprefixedDescriptor op).length = 0 := by
  constructor
  · intro h
    obtain ⟨i, hrow⟩ := exists_unusedRow h
    exact (unusedRow hrow).2.1
  · intro h
    rcases eq_0xCB_or_unused_or_length_eq op with rfl | hmem | hlen
    · cases h
    · exact hmem
    · omega

/-- Settles O6: the eleven are the opcodes of the rows of R86, and each of these rows stands in the map and raises. -/
theorem unusedOpcodesAreTheEleven : Obligations.UnusedOpcodesAreTheEleven := by
  refine ⟨length_eq_zero_iff_unused, fun op hop => ?_⟩
  obtain ⟨i, hrow⟩ := exists_unusedRow hop
  obtain ⟨hslot, -, hcycles, hexec⟩ := unusedRow hrow
  have hans := Slot.Answers.op i
  rw [← hslot] at hans
  exact ⟨hcycles, i, hrow, decode_of_answers hans, hexec⟩

/-! ### Lengths -/

theorem descriptor_of_encode {i : Instr} {op : Byte} {operand : List Byte} (h : encode i = op :: operand) (hop : op ≠ 0xCB#8) :
    i.descriptor = unprefixedDescriptor op := by
  rw [Instr.descriptor, h]
  split
  · next he => cases he; exact absurd rfl hop
  · next he => cases he; rfl
  · next he => cases he

theorem descriptor_cbInstr (op2 : Byte) : (cbInstr op2).descriptor = cbDescriptor op2 := by
  rw [Instr.descriptor, (cbInstr_encodesAs op2).2]
  rfl

theorem Slot.operandBytes_le (s : Slot) : s.operandBytes ≤ 2 := by
  cases s <;> simp [operandBytes]

/-- behind 0xCB stands exactly one byte, which chooses the instruction (R85, R88). -/
theorem eq_cbInstr_of_answers {operand : List Byte} {i : Instr} (h : (unprefixedDescriptor 0xCB#8).slot.Answers operand i) :
    ∃ op2, operand = [op2] ∧ i = cbInstr op2 := by
  obtain @⟨⟩ := (show Slot.cbPrefix.Answers operand i from h)
  exact ⟨_, rfl, rfl⟩

/-- Settles O8: an instruction is the opcode of its row and the bytes the row takes, and a row takes as many as its length says. -/
theorem encodedLengthIsTheDescriptors : Obligations.EncodedLengthIsTheDescriptors := by
  intro i hwf
  obtain ⟨op, operand, henc, hans⟩ := exists_row hwf
  have hlen : (encode i).length = (unprefixedDescriptor op).slot.operandBytes + 1 := by
    rw [henc, List.length_cons, hans.length_eq]
  have hle := (unprefixedDescriptor op).slot.operandBytes_le
  refine ⟨by omega, by omega, fun hhead => ?_, ?_⟩
  · rw [henc] at hhead; cases hhead
    exact hlen
  by_cases hop : op = 0xCB#8
  · subst hop
    obtain ⟨op2, -, rfl⟩ := eq_cbInstr_of_answers hans
    rw [descriptor_cbInstr]
    exact .inl hlen
  rw [descriptor_of_encode henc hop]
  rcases eq_0xCB_or_unused_or_length_eq op with hcb | hmem | heq
  · exact absurd hcb hop
  · obtain ⟨j, hrow⟩ := exists_unusedRow hmem
    obtain ⟨hslot, hzero, -⟩ := unusedRow hrow
    rw [hslot] at hans hlen
    obtain @⟨⟩ := hans
    exact .inr ⟨hzero, hlen, List.mem_map.mpr ⟨_, hrow, rfl⟩⟩
  · exact .inl (hlen.trans heq.symm)

/-! ### Alternate durations -/

/-- The rows of the map whose operation depends on the condition `q` (R84): JR, RET, JP and CALL, each with its opcode. -/
def Cond.rows (q : Cond) : List (Byte × Slot) :=
  let cc := match q with
    | .nz => 0x00#8 | .z => 0x08#8 | .nc => 0x10#8 | .c => 0x18#8
  [(0x20#8 ||| cc, .imm8 (.ofJr q)), (0xC0#8 ||| cc, .op (.ofRet q)), (0xC2#8 ||| cc, .imm16 (.ofJp q)),
   (0xC4#8 ||| cc, .imm16 (.ofCall q))]

set_option maxRecDepth 4000 in
theorem cyclesNotTaken_eq_none_or_mem (op : Byte) : (unprefixedDescriptor op).cyclesNotTaken = none ∨
    op ∈ [Cond.nz, .z, .nc, .c].flatMap (·.rows.map (·.1)) := by
  revert op
  decide

theorem exists_row_of_cyclesNotTaken {op : Byte} {n : Nat} (h : (unprefixedDescriptor op).cyclesNotTaken = some n) :
    ∃ q s, (op, s) ∈ Cond.rows q := by
  rcases cyclesNotTaken_eq_none_or_mem op with hnone | hmem
  · rw [hnone] at h; cases h
  · obtain ⟨q, -, hq⟩ := List.mem_flatMap.mp hmem
    obtain ⟨⟨_, s⟩, hs, rfl⟩ := List.mem_map.mp hq
    exact ⟨q, s, hs⟩

/-- A conditional row stands in the map under its opcode, and its alternate duration is the shorter one. -/
theorem conditionalRow {q : Cond} {op : Byte} {s : Slot} (h : (op, s) ∈ q.rows) : (unprefixedDescriptor op).slot = s ∧
    ∃ n, (unprefixedDescriptor op).cyclesNotTaken = some n ∧ n < (unprefixedDescriptor op).cycles := by
  unfold Cond.rows at h
  cases q <;> fin_cases h <;> exact ⟨rfl, _, rfl, by decide⟩

/-- The byte 0xCB alone is the one term that is no instruction (R275). -/
theorem eq_prefixCb_of_not_wellFormed {i : Instr} (h : i.wellFormed = false) : i = .prefixCb := by
  unfold Instr.wellFormed at h
  split at h
  · rfl
  · cases h

/-- An instruction with an alternate duration comes from a conditional row. -/
theorem conditional_of_cyclesNotTaken {i : Instr} {n : Nat} (h : i.descriptor.cyclesNotTaken = some n) :
    ∃ q op s operand, (op, s) ∈ Cond.rows q ∧ s.Answers operand i ∧ i.descriptor = unprefixedDescriptor op := by
  cases hwf : i.wellFormed with
  | false =>
    obtain rfl := eq_prefixCb_of_not_wellFormed hwf
    cases h
  | true =>
    obtain ⟨op, operand, henc, hans⟩ := exists_row hwf
    by_cases hop : op = 0xCB#8
    · subst hop
      obtain ⟨op2, -, rfl⟩ := eq_cbInstr_of_answers hans
      rw [descriptor_cbInstr] at h; cases h
    · have hd := descriptor_of_encode henc hop
      rw [hd] at h
      obtain ⟨q, s, hrow⟩ := exists_row_of_cyclesNotTaken h
      rw [(conditionalRow hrow).1] at hans
      exact ⟨q, op, s, operand, hrow, hans, hd⟩

/-- Settles O9: an alternate duration stands in the conditional rows only, and in each of them. -/
theorem alternateDurationOnlyOfConditionals : Obligations.AlternateDurationOnlyOfConditionals := by
  refine fun i => ⟨⟨fun ⟨n, h⟩ => ?_, ?_⟩, fun n h => ?_⟩
  · obtain ⟨q, op, s, operand, hrow, hans, -⟩ := conditional_of_cyclesNotTaken h
    simp only [Cond.rows, List.mem_cons, Prod.mk.injEq, List.not_mem_nil, or_false] at hrow
    rcases hrow with ⟨-, rfl⟩ | ⟨-, rfl⟩ | ⟨-, rfl⟩ | ⟨-, rfl⟩ <;> cases hans
    · exact .inl ⟨q, _, rfl⟩
    · exact .inr (.inr (.inr ⟨q, rfl⟩))
    · exact .inr (.inl ⟨q, _, rfl⟩)
    · exact .inr (.inr (.inl ⟨q, _, rfl⟩))
  · rintro (⟨q, e, rfl⟩ | ⟨q, n, rfl⟩ | ⟨q, n, rfl⟩ | ⟨q, rfl⟩) <;> cases q <;> exact ⟨_, rfl⟩
  · obtain ⟨q, op, s, operand, hrow, -, hd⟩ := conditional_of_cyclesNotTaken h
    obtain ⟨-, m, hm, hlt⟩ := conditionalRow hrow
    rw [hd] at h ⊢
    rw [hm] at h; cases h
    exact hlt

/-! ### The maps by their fields -/

section Fields
variable (x : Fin 4) (y z : Fin 8)

/-- The second opcode byte with the fields x, y and z (R72). -/
def byteOfFields : Byte := BitVec.ofNat 8 (64 * x.val + 8 * y.val + z.val)

theorem toNat_byteOfFields : (byteOfFields x y z).toNat = 64 * x.val + 8 * y.val + z.val := by
  rw [byteOfFields, BitVec.toNat_ofNat]
  omega

theorem fieldX_byteOfFields : fieldX (byteOfFields x y z) = x.val := by
  rw [fieldX, toNat_byteOfFields]
  omega

theorem fieldY_byteOfFields : fieldY (byteOfFields x y z) = y.val := by
  rw [fieldY, toNat_byteOfFields]
  omega

theorem fieldZ_byteOfFields : fieldZ (byteOfFields x y z) = z.val := by
  rw [fieldZ, toNat_byteOfFields]
  omega

end Fields

theorem R8.ofCode_eq_getD (z : Fin 8) :
    R8.ofCode z.val = ([.reg .b, .reg .c, .reg .d, .reg .e, .reg .h, .reg .l, .atHl] : List R8).getD z.val (.reg .a) := by
  fin_cases z <;> rfl

theorem RotOp.ofCode_eq_getD (y : Fin 8) :
    RotOp.ofCode y.val = ([.rlc, .rrc, .rl, .rr, .sla, .sra, .swap] : List RotOp).getD y.val .srl := by
  fin_cases y <;> rfl

/-- Settles O4: the second byte is read by its fields, and each field by its code. -/
theorem prefixedMapByFields : Obligations.PrefixedMapByFields := by
  intro x y z rest op2 r rot
  have hdecode : decode (0xCB#8 :: op2 :: rest) = .ok (cbInstr op2, rest) :=
    decode_of_answers (op := 0xCB#8) (.cbPrefix op2) rest
  have hx : fieldX op2 = x.val := fieldX_byteOfFields x y z
  have hr : R8.ofCode (fieldZ op2) = r := (congrArg _ (fieldZ_byteOfFields x y z)).trans (R8.ofCode_eq_getD z)
  have hrot : RotOp.ofCode (fieldY op2) = rot := (congrArg _ (fieldY_byteOfFields x y z)).trans (RotOp.ofCode_eq_getD y)
  have hu : Fin.ofNat 8 (fieldY op2) = y := (congrArg _ (fieldY_byteOfFields x y z)).trans (Fin.ofNat_val_eq_self y)
  rw [hdecode, cbInstr, hx, hr, hrot, hu]
  fin_cases x <;> rfl

/-- Settles O5: each family over its operand codes, as the row-by-row encoder writes it. -/
theorem unprefixedFamiliesByFields : Obligations.UnprefixedFamiliesByFields := by
  unfold Obligations.UnprefixedFamiliesByFields
  intro code code8 alu p pStk pMem cc op
  refine ⟨?ldRegReg, ?ldRegImm, ?ldFromHl, ?ldToHl, ?aluR8, ?aluImm, ?incDec8, ?ldR16, ?incDecAdd16, ?memPtr, ?stack, ?jpCall, ?jr,
    ?ret, ?rst⟩
  case ldRegReg => intro y z; cases y <;> cases z <;> rfl
  case ldRegImm => intro y n; cases y <;> rfl
  case ldFromHl => intro y; cases y <;> rfl
  case ldToHl => intro z; cases z <;> rfl
  case aluR8 =>
    intro o z
    cases z with
    | atHl => cases o <;> rfl
    | reg r => cases o <;> cases r <;> rfl
  case aluImm => intro o n; cases o <;> rfl
  case incDec8 =>
    intro y
    cases y with
    | atHl => exact ⟨rfl, rfl⟩
    | reg r => cases r <;> exact ⟨rfl, rfl⟩
  case ldR16 => intro rr n; cases rr <;> rfl
  case incDecAdd16 => intro rr; cases rr <;> exact ⟨rfl, rfl, rfl⟩
  case memPtr => intro m; cases m <;> exact ⟨rfl, rfl⟩
  case stack => intro rr; cases rr <;> exact ⟨rfl, rfl⟩
  case jpCall => intro q n; cases q <;> exact ⟨rfl, rfl⟩
  case jr => intro q e; cases q <;> rfl
  case ret => intro q; cases q <;> rfl
  case rst => intro y; fin_cases y <;> rfl

/-! ### Words written out -/

/-- Settles O3: the decoder run on each of the fourteen words. -/
theorem writtenOutWordsDecode : Obligations.WrittenOutWordsDecode :=
  ⟨rfl, rfl, rfl, rfl, rfl, rfl, rfl, rfl, rfl, rfl, rfl, rfl, rfl, rfl⟩

end Sys2Proof
end

section
/-! The instructions as the dispatch runs them (spec 40_dispatch.md R106, R108, R111): those behind 0xCB, O24, and the
duration that each instruction leaves, O10. -/

namespace Sys2Proof.Machine

/-! ### Behind 0xCB -/

@[simp] theorem writeR8_pc (s : State) (r : R8) (v : Byte) : (writeR8 r v s).pc = s.pc := by
  cases r with
  | reg r => exact setReg_pc s r v
  | atHl => rfl

/-- What an instruction behind 0xCB does (R106, R174): no control state is written, PC is left where the fetch put it, and the
duration is the one of its descriptor. -/
theorem exec_cbInstr_next (op2 : Byte) (s : State) : ∃ t, exec (cbInstr op2) s = .next t ∧ Plain s t ∧ t.pc = s.pc ∧
    t.cycles = some (cbCycles op2) := by
  refine ⟨_, exec_cbInstr op2 s, ?_⟩
  split
  · exact ⟨plain_rotR8 .., by simp [rotR8], rfl⟩
  · exact ⟨plain_bitR8 .., by simp [bitR8], rfl⟩
  · exact ⟨plain_resR8 .., by simp [resR8], rfl⟩
  · exact ⟨plain_setR8 .., by simp [setR8], rfl⟩

/-- The meaning of the byte 0xCB is the fetch of a byte and the meaning of that byte's row (R106, R275; log 10). -/
theorem exec_prefixCb (s : State) : exec .prefixCb s = exec (cbInstr (readImm8 s).1) (readImm8 s).2 :=
  (exec_cbInstr _ _).symm

/-- Two bytes the first of which is 0xCB decode to the second byte's row (R85). -/
theorem eq_cbInstr_of_decode {op2 : Byte} {i : Instr} (h : decode [0xCB#8, op2] = .ok (i, [])) : i = cbInstr op2 := by
  rw [show decode [0xCB#8, op2] = .ok (cbInstr op2, []) from decode_of_answers (op := 0xCB#8) (.cbPrefix op2) []] at h
  cases h
  rfl

/-- Settles O24: the byte is read at PC by the meaning of 0xCB, and the rows behind 0xCB leave PC. -/
theorem prefixRunsTheRowOfTheNextByte : Obligations.PrefixRunsTheRowOfTheNextByte := by
  intro s i h
  obtain rfl := eq_cbInstr_of_decode h
  obtain ⟨t, ht, -, hpc, hcycles⟩ := exec_cbInstr_next (s.peek s.pc) (readImm8 s).2
  refine ⟨exec_prefixCb s, t, (exec_prefixCb s).trans ht, hpc, ?_⟩
  rw [hcycles, descriptor_cbInstr]
  rfl

/-! ### Durations -/

/-- The cycle count is a duration of the descriptor (R111), or there is none because a fault was raised (R315). -/
def State.Reports (t : State) (d : Descriptor) : Prop :=
  t.cycles = some d.cycles ∨ (∃ n, d.cyclesNotTaken = some n ∧ t.cycles = some n) ∨ (t.cycles = none ∧ t.fault ≠ none)

/-- A conditional row has the duration of its descriptor when it is taken, and the alternate one when it is not (R90, R111). -/
theorem reports_ite {p : Prop} [Decidable p] {taken notTaken : State} {d : Descriptor} {n : Nat} (hd : d.cyclesNotTaken = some n)
    (ht : taken.cycles = some d.cycles) (hn : notTaken.cycles = some n) : (if p then taken else notTaken).Reports d := by
  split
  · exact .inl ht
  · exact .inr (.inl ⟨n, hd, hn⟩)

/-- HALT takes its duration whether it halts or arms the HALT bug (R271). -/
theorem halt_cycles (n : Nat) (s : State) : (halt n s).cycles = some n := by
  unfold halt
  split <;> rfl

/-- STOP takes its duration or raises its fault, as STOP_MODE says (R272). -/
theorem stop_cycles (n : Nat) (s : State) : (stop n s).cycles = some n ∨ ((stop n s).cycles = none ∧ (stop n s).fault ≠ none) := by
  unfold stop
  split
  · exact .inr ⟨rfl, nofun⟩
  · exact .inl rfl

/-- Settles O10: by the rows. The duration depends on the state in the conditional ones, whose descriptors have the alternate one,
and in STOP; the UNUSED ones raise; every other row leaves the duration written in it. -/
theorem everyInstructionReportsItsDuration : Obligations.EveryInstructionReportsItsDuration := by
  intro i s hwf
  show ∃ t, exec i s = .next t ∧ t.Reports i.descriptor
  cases i
  case prefixCb => cases hwf
  case jrNzE8 | jrZE8 | jrNcE8 | jrCE8 => exact ⟨_, rfl, reports_ite rfl rfl rfl⟩
  case jpNzN16 | jpZN16 | jpNcN16 | jpCN16 => exact ⟨_, rfl, reports_ite rfl rfl rfl⟩
  case callNzN16 | callZN16 | callNcN16 | callCN16 => exact ⟨_, rfl, reports_ite rfl rfl rfl⟩
  case retNz | retZ | retNc | retC => exact ⟨_, rfl, reports_ite rfl rfl rfl⟩
  case halt => exact ⟨_, rfl, .inl (halt_cycles ..)⟩
  case stop => exact ⟨_, rfl, (stop_cycles ..).imp_right .inr⟩
  case unusedD3 | unusedDB | unusedDD | unusedE3 | unusedE4 | unusedEB | unusedEC | unusedED | unusedF4 | unusedFC | unusedFD =>
    exact ⟨_, rfl, .inr (.inr ⟨rfl, nofun⟩)⟩
  all_goals exact ⟨_, rfl, .inl rfl⟩

end Sys2Proof.Machine
end

section
/-! The kinds of step (spec 40_dispatch.md R101 to R112): the faulted state, O12, the halted core, O14, the step that runs an
instruction, O11, and an UNUSED one, O13; then the commit of the EI latch, O17. -/

namespace Sys2Proof.Machine

/-- Settles O12: the step looks at the fault first. -/
theorem faultedStateHasNoStep : Obligations.FaultedStateHasNoStep := by
  intro s f h
  rw [step, h]

/-! ### The halted core -/

/-- A core that wakes goes on as if it had not been halted (R103). -/
theorem coreStep_of_pend {s : State} (h : s.pend ≠ 0#8) : coreStep s = coreStep { s with halted := false } := by
  rw [coreStep_eq s, if_neg fun hidle => h hidle.2]
  exact (if_neg fun hidle => h hidle.2).symm

/-- Settles O14: the idle step is the first kind of step; the wake commutes with what the environment does. -/
theorem haltedCoreIdlesOrWakes : Obligations.HaltedCoreIdlesOrWakes := by
  intro s hf
  refine ⟨fun hidle => ⟨step_of_idle hf hidle, beginStep_bus s⟩, fun _ hpend => ?_⟩
  calc step s = coreStep s.beginStep := step_of_fault_none hf
    _ = coreStep { s.beginStep with halted := false } := coreStep_of_pend hpend
    _ = coreStep (State.beginStep { s with halted := false }) := congrArg coreStep (beginStep_setHalted s false).symm
    _ = step { s with halted := false } := (step_of_fault_none (s := { s with halted := false }) hf).symm

/-! ### The instruction that the bytes at PC decode to -/

theorem length_readAll (l : List Word) (s : State) : (readAll l s).1.length = l.length := by
  induction l generalizing s with
  | nil => rfl
  | cons a l ih => simp only [readAll, List.length_cons, ih]

/-- Bytes that decode with none left over: as many as the row of the first one takes. -/
theorem length_of_decode {op : Byte} {tail : List Byte} {i : Instr} (h : decode (op :: tail) = .ok (i, [])) :
    (op :: tail).length = (unprefixedDescriptor op).slot.operandBytes + 1 := by
  obtain ⟨op', operand, hbytes, hans⟩ := answers_of_decode h
  rw [List.append_nil] at hbytes
  cases hbytes
  rw [List.length_cons, hans.length_eq]

/-- The number of bytes read that decode with none left over is the length of the row of the first of them. -/
theorem eq_length_of_decode_fetch {s : State} {n : Nat} {i : Instr} (hn : n ≤ 3)
    (h : decode (readAll (s.fetchAddrs.take n) s).1 = .ok (i, [])) :
    n = (unprefixedDescriptor (s.peek s.pc)).slot.operandBytes + 1 := by
  have hlen : (readAll (s.fetchAddrs.take n) s).1.length = n := by
    rw [length_readAll, List.length_take]
    exact Nat.min_eq_left hn
  cases n with
  | zero => cases h
  | succ m =>
    rw [← hlen]
    exact length_of_decode h

/-- What the fetch answers, from any number of bus reads whose bytes decode with none left over (R105, R106, R109). -/
theorem fetchInstr_of_decode {s : State} {n : Nat} {i : Instr} (hn : n ≤ 3)
    (h : decode (readAll (s.fetchAddrs.take n) s).1 = .ok (i, [])) : fetchInstr s = (i, s.fetched n) := by
  obtain ⟨m, -, hm, hd, hs⟩ := fetchInstr_eq s
  obtain rfl : n = m := (eq_length_of_decode_fetch hn h).trans (eq_length_of_decode_fetch hm hd).symm
  rw [h] at hd
  cases hd
  exact Prod.ext rfl hs

/-- Settles O11: the fetch answers what its reads decode to, and `runInstr` is `exec` and then the end of the step. -/
theorem stepRunsTheDecodedInstruction : Obligations.StepRunsTheDecodedInstruction := by
  intro s hr s0 pc1 read
  constructor
  · obtain ⟨n, hn1, hn3, hd, -⟩ := fetchInstr_eq s0
    exact ⟨n, _, hn1, hn3, hd⟩
  · intro n i hn hd
    have hfetch : fetchInstr s0 = (i, s0.fetched n) := fetchInstr_of_decode hn hd
    rw [step_of_runs hr, runInstr, hfetch, ← awake_imePending]
    rfl

/-! ### An UNUSED opcode -/

theorem fetchInstr_of_op {s : State} {i : Instr} (h : (unprefixedDescriptor (s.peek s.pc)).slot = .op i) :
    fetchInstr s = (i, (fetchOpcode s).2) := by
  have hop : (unprefixedDescriptor (fetchOpcode s).1).slot = .op i := h
  simp only [fetchInstr, hop]

theorem endStep_of_fault {s : State} (due : Bool) (h : s.fault ≠ none) : endStep due s = s := by
  rw [endStep, if_pos (Option.isSome_iff_ne_none.mpr h)]

/-- A step that fetches an UNUSED opcode is the opcode fetch and the raise (R107, R276, R311). -/
theorem step_of_unused {s : State} {op : Byte} {i : Instr} (hr : s.runs) (hop : s.awake.peek s.awake.pc = op)
    (hrow : (op, i) ∈ Instr.unusedRows) : step s = .next ((fetchOpcode s.awake).2.raise (.unusedOpcode op)) := by
  obtain ⟨hslot, -, -, hexec⟩ := unusedRow hrow
  rw [← hop] at hslot
  have hrun : exec (fetchInstr s.awake).1 (fetchInstr s.awake).2 = .next ((fetchOpcode s.awake).2.raise (.unusedOpcode op)) := by
    rw [fetchInstr_of_op hslot]
    exact hexec _
  rw [step_of_runs hr, runInstr_next hrun, endStep_of_fault _ (by simp)]

/-- Settles O13: the opcodes without a length are the UNUSED rows; the rows behind 0xCB write no control state, the fault among
it. -/
theorem unusedStepEndsInTheFaultState : Obligations.UnusedStepEndsInTheFaultState := by
  constructor
  · intro s hr hlen s0 op t
    obtain ⟨i, hrow⟩ := exists_unusedRow ((length_eq_zero_iff_unused op).mpr hlen)
    have hraise : (fetchOpcode s0).2.raise (.unusedOpcode op) = t := by rw [fetchOpcode_eq]; rfl
    refine ⟨?_, ?_, (keepsBytes_busRead s0 s0.pc).congr rfl rfl, faultedStateHasNoStep t _ rfl⟩
    · rw [step_of_unused hr rfl hrow, hraise]
    · exact busRead_bus s0 s0.pc
  · intro op2 i s t hd h
    obtain rfl := eq_cbInstr_of_decode hd
    obtain ⟨u, hu, hplain, -⟩ := exec_cbInstr_next op2 s
    rw [hu] at h
    cases h
    exact hplain.fault

/-! ### The latch commit -/

@[simp] theorem serviceInterrupt_imePending (s : State) : (serviceInterrupt s).imePending = s.imePending := by
  rw [serviceInterrupt_eq]

theorem endStep_of_not_due (s : State) : endStep false s = s := by
  unfold endStep commitLatch
  split <;> rfl

/-- An instruction that raises a fault writes neither ime nor the pending enable: RETI, DI and EI raise none (R315). -/
theorem exec_keeps_enable_of_fault {i : Instr} {s t : State} (h : exec i s = .next t) (hs : s.fault = none)
    (ht : t.fault ≠ none) : t.ime = s.ime ∧ t.imePending = s.imePending := by
  have hreti : i ≠ .reti := by rintro rfl; cases h; simp [reti, returnFromInterrupt, hs] at ht
  have hdi : i ≠ .di := by rintro rfl; cases h; simp [disableInterrupts, hs] at ht
  have hei : i ≠ .ei := by rintro rfl; cases h; simp [armEnable, hs] at ht
  exact ⟨by rw [exec_ime h, if_neg hreti, if_neg hdi], by rw [exec_imePending h, if_neg hei, if_neg hdi]⟩

/-- The end of a step that ran an instruction with an enable armed before it: the commit, unless the instruction was DI (R110,
R273). -/
theorem endStep_exec_of_due {i : Instr} {s u : State} (h : exec i s = .next u) (hu : u.fault = none)
    (hs : s.imePending = true) : (endStep true u).imePending = false ∧ ((endStep true u).ime = true ↔ i ≠ .di) := by
  have hpending : u.imePending = true ↔ i ≠ .di := by
    rw [exec_imePending h, hs]
    by_cases hdi : i = .di <;> simp [hdi]
  have hime : u.ime = true → i ≠ .di := by
    rintro himeTrue rfl
    cases h
    cases himeTrue
  rw [endStep_ime, endStep_imePending]
  simp only [hu, Option.isNone_none, Bool.and_true, Bool.not_true, Bool.and_false, Bool.true_and, Bool.or_eq_true, true_and]
  exact ⟨fun hor => hor.elim hime hpending.mp, fun hdi => .inr (hpending.mpr hdi)⟩

/-- Who leaves an enable pending, and who leaves ime set, when none was armed before (R250, R273, R274). -/
theorem exec_enable_of_not_armed {i : Instr} {s u : State} (h : exec i s = .next u) (hs : s.imePending = false) :
    (u.imePending = true ↔ i = .ei) ∧ (u.ime = true ↔ i = .reti ∨ (s.ime = true ∧ i ≠ .di)) := by
  rw [exec_ime h, exec_imePending h, hs]
  refine ⟨?_, ?_⟩
  · by_cases hei : i = .ei <;> simp [hei]
  · by_cases hreti : i = .reti
    · simp [hreti]
    · by_cases hdi : i = .di <;> simp [hreti, hdi]

/-- Settles O17: by the kinds of step. An idle step has nothing to commit, a service clears ime before the commit, and an
instruction is followed by the commit unless it raised a fault. -/
theorem armedEnableCommitsAtTheEndOfTheStep : Obligations.ArmedEnableCommitsAtTheEndOfTheStep := by
  intro s t hf h
  obtain ⟨-, ⟨hidle, rfl⟩ | ⟨hidle, hservice, rfl⟩ | ⟨hr, u, hu, rfl⟩⟩ := step_cases h
  case inl => exact ⟨fun _ => ⟨beginStep_ime s, beginStep_imePending s⟩, fun hn => absurd hidle hn⟩
  case inr.inl =>
    have hnorun : ¬ s.runs := fun hr => hr.2.2 hservice
    refine ⟨fun hstop => ?_, fun _ _ => ⟨fun hdue => ?_, fun hdue => ?_⟩⟩
    · rcases hstop with hi | hfault
      · exact absurd hi hidle
      · simp [hf] at hfault
    · simp [endStep_ime, endStep_imePending, hdue, hf, hnorun]
    · simp [endStep_ime, endStep_imePending, hdue, hnorun]
  case inr.inr =>
    have hfetched : (fetchInstr s.awake).2.fault = none := by simpa using hf
    refine ⟨fun hstop => ?_, fun _ hok => ⟨fun hdue => ?_, fun hdue => ?_⟩⟩
    · have hfault : u.fault ≠ none := hstop.elim (fun hi => absurd hi hr.2.1) (by simp)
      rw [endStep_of_fault _ hfault]
      simpa using exec_keeps_enable_of_fault hu hfetched hfault
    · have hu0 : u.fault = none := by simpa using hok
      rw [hdue]
      simpa [hr] using endStep_exec_of_due hu hu0 (by simpa using hdue)
    · rw [hdue, endStep_of_not_due]
      simpa [hr] using exec_enable_of_not_armed hu (by simpa using hdue)

end Sys2Proof.Machine
end

section
/-! 8-bit arithmetic and logic (spec 41_alu8.md). First on values: what each flag computation answers, in numbers. Then the
accumulator operations, O41 to O44; INC and DEC, O45; DAA, O46 and O47; CPL, SCF and CCF, O48, on states. -/

namespace Sys2Proof.Machine

/-! ### The flags of a state whose F was packed -/

/-- Where F is a pack of flags, they are the state's flags, and bits 3..0 of F are 0 (R24, R25). -/
theorem flags_of_pack {t : State} {fl : Flags} (h : t.f = fl.pack) :
    t.flagZ = fl.z ∧ t.flagN = fl.n ∧ t.flagH = fl.h ∧ t.flagC = fl.c ∧ t.f &&& 0x0F#8 = 0#8 := by
  have hbit : ∀ k, t.f.getLsbD k = fl.pack.getLsbD k := fun k => by rw [h]
  exact ⟨(hbit 7).trans (pack_bit7 fl), (hbit 6).trans (pack_bit6 fl), (hbit 5).trans (pack_bit5 fl),
    (hbit 4).trans (pack_bit4 fl), by rw [h, pack_low]⟩

/-! ### Sums -/

/-- The sum is the exact one modulo 2^8 (R121, R122). -/
theorem add8_toNat (a v : Byte) (cin : Bool) : (add8 a v cin).1.toNat = (a.toNat + v.toNat + cin.toNat) % 256 :=
  BitVec.toNat_ofNat ..

theorem add8_z (a v : Byte) (cin : Bool) : (add8 a v cin).2.z = true ↔ (add8 a v cin).1 = 0#8 := by
  rw [← BitVec.toNat_inj, add8_toNat]
  exact decide_eq_true_iff

theorem add8_h (a v : Byte) (cin : Bool) : (add8 a v cin).2.h = true ↔ a.toNat % 16 + v.toNat % 16 + cin.toNat > 15 :=
  decide_eq_true_iff

theorem add8_c (a v : Byte) (cin : Bool) : (add8 a v cin).2.c = true ↔ a.toNat + v.toNat + cin.toNat > 255 :=
  decide_eq_true_iff

/-- ADD is ADC with no incoming carry (R121, R122). -/
theorem alu8_addOrAdc (withCarry : Bool) (a v : Byte) (carry : Bool) :
    alu8 (if withCarry then .adc else .add) a v carry = add8 a v (withCarry && carry) := by
  cases withCarry <;> rfl

/-! ### Differences -/

/-- The difference is the exact one modulo 2^8: adding the subtrahend and the borrow to it gives A back (R123, R124). -/
theorem sub8_toNat (a v : Byte) (cin : Bool) : ((sub8 a v cin).1.toNat + v.toNat + cin.toNat) % 256 = a.toNat := by
  have hr : (sub8 a v cin).1.toNat = (((a.toNat : Int) - v.toNat - cin.toNat) % 256).toNat := BitVec.toNat_ofInt ..
  rw [hr]
  omega

theorem sub8_z (a v : Byte) (cin : Bool) : (sub8 a v cin).2.z = true ↔ (sub8 a v cin).1 = 0#8 := decide_eq_true_iff

theorem sub8_h (a v : Byte) (cin : Bool) : (sub8 a v cin).2.h = true ↔ v.toNat % 16 + cin.toNat > a.toNat % 16 :=
  decide_eq_true_iff

theorem sub8_c (a v : Byte) (cin : Bool) : (sub8 a v cin).2.c = true ↔ v.toNat + cin.toNat > a.toNat :=
  decide_eq_true_iff

/-- The difference of two bytes is 0 exactly when they are equal (R128). -/
theorem sub8_eq_zero_iff (a v : Byte) : (sub8 a v false).1 = 0#8 ↔ a = v := by
  have hsum := sub8_toNat a v false
  rw [Bool.toNat_false] at hsum
  bv_omega

/-- SUB is SBC with no incoming borrow (R123, R124). -/
theorem alu8_subOrSbc (withCarry : Bool) (a v : Byte) (carry : Bool) :
    alu8 (if withCarry then .sbc else .sub) a v carry = sub8 a v (withCarry && carry) := by
  cases withCarry <;> rfl

/-! ### The accumulator operations -/

/-- What an accumulator operation does (R120 to R128): the read of its source, A and F from `alu8`, and the duration. -/
theorem exec_ofAlu_next (op : AluOp) (x : AluSrc) (s : State) : ∃ t, exec (.ofAlu op x) s = .next t ∧
    t = { s.aluAfter x with a := t.a, f := t.f, cycles := some x.cost } ∧ t.a = (alu8 op s.a (s.aluValue x) s.flagC).1 ∧
    t.f = (alu8 op s.a (s.aluValue x) s.flagC).2.pack ∧ KeepsBytes s t [] :=
  ⟨_, (exec_ofAlu op x s).trans (congrArg _ (aluA_eq ..)), rfl, rfl, rfl,
    (keepsBytes_aluAfter s x).congr rfl rfl⟩

/-- The carry that comes in, as a number: of ADC and SBC the carry flag, of ADD and SUB none. -/
theorem carryIn_eq (withCarry carry : Bool) : (if withCarry then carry.toNat else 0) = (withCarry && carry).toNat := by
  cases withCarry <;> rfl

/-- Settles O41: ADD and ADC are `add8`, whose sum and flags are numbers. -/
theorem addAndAdcSumAndFlags : Obligations.AddAndAdcSumAndFlags := by
  intro withCarry x s v cin
  obtain ⟨t, ht, hframe, ha, hf, hkeeps⟩ := exec_ofAlu_next (if withCarry then .adc else .add) x s
  rw [alu8_addOrAdc] at ha hf
  obtain ⟨hz, hn, hh, hc, hlow⟩ := flags_of_pack hf
  have hcin : cin = (withCarry && s.flagC).toNat := carryIn_eq ..
  refine ⟨t, ht, hframe, ?_, ?_, hn, ?_, ?_, hlow, hkeeps⟩
  · rw [ha, hcin, add8_toNat]
  · rw [hz, ha, add8_z]
  · rw [hh, hcin, add8_h]
  · rw [hc, hcin, add8_c]

/-- Settles O42: SUB and SBC are `sub8`, whose difference and flags are numbers. -/
theorem subAndSbcDifferenceAndFlags : Obligations.SubAndSbcDifferenceAndFlags := by
  intro withCarry x s v cin
  obtain ⟨t, ht, hframe, ha, hf, hkeeps⟩ := exec_ofAlu_next (if withCarry then .sbc else .sub) x s
  rw [alu8_subOrSbc] at ha hf
  obtain ⟨hz, hn, hh, hc, hlow⟩ := flags_of_pack hf
  have hcin : cin = (withCarry && s.flagC).toNat := carryIn_eq ..
  refine ⟨t, ht, hframe, ?_, ?_, hn, ?_, ?_, hlow, hkeeps⟩
  · rw [ha, hcin, sub8_toNat]
  · rw [hz, ha, sub8_z]
  · rw [hh, hcin, sub8_h]
  · rw [hc, hcin, sub8_c]

/-- Settles O44: CP leaves A and takes the flags of `sub8`, as SUB does. -/
theorem compareWritesFlagsOnly : Obligations.CompareWritesFlagsOnly := by
  intro x s v
  obtain ⟨t, ht, hframe, ha, hf, hkeeps⟩ := exec_ofAlu_next .cp x s
  obtain ⟨u, hu, -, -, hfu, -⟩ := exec_ofAlu_next .sub x s
  have hflags : t.f = (sub8 s.a v false).2.pack := hf
  obtain ⟨hz, hn, hh, hc, hlow⟩ := flags_of_pack hflags
  have hkeepsA : t.a = (s.aluAfter x).a := ha.trans (aluAfter_a s x).symm
  rw [hkeepsA] at hframe
  refine ⟨t, ht, hframe, ?_, hn, ?_, ?_, hlow, hkeeps, fun u' hu' => ?_⟩
  · rw [hz, sub8_z, sub8_eq_zero_iff]
  · rw [hh, sub8_h, Bool.toNat_false, Nat.add_zero]
  · rw [hc, sub8_c, Bool.toNat_false, Nat.add_zero, gt_iff_lt]
  · rw [hu] at hu'
    cases hu'
    exact hflags.trans hfu.symm

/-- Settles O43: each operation is the one of the library on bit vectors, bit by bit. -/
theorem logicOperationsAndFlags : Obligations.LogicOperationsAndFlags := by
  intro op f x s hop
  obtain ⟨t, ht, hframe, ha, hf, hkeeps⟩ := exec_ofAlu_next op x s
  obtain ⟨hz, hn, hh, hc, hlow⟩ := flags_of_pack hf
  refine ⟨t, ht, hframe, ?_⟩
  rw [hz, hn, hh, hc, ha]
  obtain ⟨rfl, rfl⟩ | ⟨rfl, rfl⟩ | ⟨rfl, rfl⟩ := hop
  · exact ⟨fun _ _ => BitVec.getLsbD_and, decide_eq_true_iff, rfl, rfl, rfl, hlow, hkeeps⟩
  · exact ⟨fun _ _ => BitVec.getLsbD_xor, decide_eq_true_iff, rfl, rfl, rfl, hlow, hkeeps⟩
  · exact ⟨fun _ _ => BitVec.getLsbD_or, decide_eq_true_iff, rfl, rfl, rfl, hlow, hkeeps⟩

/-! ### INC and DEC -/

theorem inc8_fst (v : Byte) (carry : Bool) : (inc8 v carry).1 = v + 1#8 := by
  show BitVec.ofNat 8 (v.toNat + 1) = v + 1#8
  rw [BitVec.ofNat_add, BitVec.ofNat_toNat, BitVec.setWidth_eq]

theorem inc8_z (v : Byte) (carry : Bool) : (inc8 v carry).2.z = true ↔ v.toNat = 255 := by
  have hzero : (inc8 v carry).2.z = true ↔ (inc8 v carry).1 = 0#8 := decide_eq_true_iff
  rw [hzero, inc8_fst]
  bv_omega

theorem inc8_h (v : Byte) (carry : Bool) : (inc8 v carry).2.h = true ↔ v.toNat % 16 = 15 := by
  have hcarry : (inc8 v carry).2.h = true ↔ v.toNat % 16 + 1 > 15 := decide_eq_true_iff
  rw [hcarry]
  omega

theorem dec8_fst (v : Byte) (carry : Bool) : (dec8 v carry).1 = v - 1#8 := by
  have hr : (dec8 v carry).1.toNat = (((v.toNat : Int) - 1) % 256).toNat := BitVec.toNat_ofInt ..
  bv_omega

theorem dec8_z (v : Byte) (carry : Bool) : (dec8 v carry).2.z = true ↔ v.toNat = 1 := by
  have hzero : (dec8 v carry).2.z = true ↔ (dec8 v carry).1 = 0#8 := decide_eq_true_iff
  rw [hzero, dec8_fst]
  bv_omega

theorem dec8_h (v : Byte) (carry : Bool) : (dec8 v carry).2.h = true ↔ v.toNat % 16 = 0 := by
  have hborrow : (dec8 v carry).2.h = true ↔ 1 > v.toNat % 16 := decide_eq_true_iff
  rw [hborrow]
  omega

/-- What INC does (R129): its operand and F take the value and the flags of `inc8`. -/
theorem exec_ofInc8_next (r : R8) (s : State) (hw : s.mem.wf = true) : ∃ t, exec (.ofInc8 r) s = .next t ∧
    ModifiesR8 s t r (inc8 (s.r8Value r) s.flagC).1 ∧ t.f = (inc8 (s.r8Value r) s.flagC).2.pack ∧
    t.cycles = some (r.cost 1 3) := by
  refine ⟨_, exec_ofInc8 r s, ?_⟩
  simp only [incR8, readR8_eq, State.flagC, r8After_f]
  exact ⟨modifiesR8_write s r _ hw _ _, rfl, rfl⟩

/-- What DEC does (R130): its operand and F take the value and the flags of `dec8`. -/
theorem exec_ofDec8_next (r : R8) (s : State) (hw : s.mem.wf = true) : ∃ t, exec (.ofDec8 r) s = .next t ∧
    ModifiesR8 s t r (dec8 (s.r8Value r) s.flagC).1 ∧ t.f = (dec8 (s.r8Value r) s.flagC).2.pack ∧
    t.cycles = some (r.cost 1 3) := by
  refine ⟨_, exec_ofDec8 r s, ?_⟩
  simp only [decR8, readR8_eq, State.flagC, r8After_f]
  exact ⟨modifiesR8_write s r _ hw _ _, rfl, rfl⟩

/-- Settles O45: the value and the flags are those of `inc8` and `dec8`. -/
theorem incAndDecR8 : Obligations.IncAndDecR8 := by
  intro r s hw v
  obtain ⟨t, ht, hinc, hft, hct⟩ := exec_ofInc8_next r s hw
  obtain ⟨u, hu, hdec, hfu, hcu⟩ := exec_ofDec8_next r s hw
  rw [inc8_fst] at hinc
  rw [dec8_fst] at hdec
  refine ⟨⟨t, ht, hinc, ?_⟩, u, hu, hdec, ?_⟩
  · obtain ⟨hz, hn, hh, hc, hlow⟩ := flags_of_pack hft
    exact ⟨by rw [hz, inc8_z], hn, by rw [hh, inc8_h], hc, hlow, hct⟩
  · obtain ⟨hz, hn, hh, hc, hlow⟩ := flags_of_pack hfu
    exact ⟨by rw [hz, dec8_z], hn, by rw [hh, dec8_h], hc, hlow, hcu⟩

/-! ### DAA -/

/-- The adjustment of the high digit leaves the low one, by which DAA then adjusts (R131). -/
theorem lowNibble_add_0x60 (hi : Bool) (a : Byte) : lowNibble (if hi then a + 0x60#8 else a) = a.toNat % 16 := by
  cases hi
  · rfl
  · show (a + 0x60#8).toNat % 16 = a.toNat % 16
    rw [BitVec.toNat_add, BitVec.toNat_ofNat]
    omega

/-- After an addition DAA adds 0x60 and 0x06, each where its digit or its carry asks for it (R131). -/
theorem daa8_toNat_of_add (a : Byte) (z h c : Bool) : (daa8 a ⟨z, false, h, c⟩).1.toNat =
    (a.toNat + (if c = true ∨ a.toNat > 0x99 then 0x60 else 0) + (if h = true ∨ a.toNat % 16 > 9 then 0x06 else 0)) % 256 := by
  obtain ⟨high, hhigh⟩ : ∃ high, high = if c || decide (a.toNat > 0x99) then a + 0x60#8 else a := ⟨_, rfl⟩
  have hdaa : (daa8 a ⟨z, false, h, c⟩).1 = if h || decide (lowNibble high > 9) then high + 0x06#8 else high := by
    rw [hhigh]
    rfl
  have hlow : lowNibble high = a.toNat % 16 := by rw [hhigh, lowNibble_add_0x60]
  rw [hdaa, hlow, hhigh]
  simp only [Bool.or_eq_true, decide_eq_true_eq]
  split_ifs <;> bv_omega

/-- The carry that DAA leaves after an addition (R131). -/
theorem daa8_c_of_add (a : Byte) (z h c : Bool) : (daa8 a ⟨z, false, h, c⟩).2.c = true ↔ c = true ∨ a.toNat > 0x99 := by
  show (c || decide (a.toNat > 0x99)) = true ↔ _
  rw [Bool.or_eq_true, decide_eq_true_eq]

/-- After a subtraction DAA subtracts 0x60 and 0x06, as C and H say (R131). -/
theorem daa8_toNat_of_sub (a : Byte) (z h c : Bool) :
    ((daa8 a ⟨z, true, h, c⟩).1.toNat + (if c then 0x60 else 0) + (if h then 0x06 else 0)) % 256 = a.toNat := by
  have hdaa : (daa8 a ⟨z, true, h, c⟩).1 =
      if h then (if c then a - 0x60#8 else a) - 0x06#8 else if c then a - 0x60#8 else a := rfl
  rw [hdaa]
  split_ifs <;> bv_omega

/-- What DAA leaves in Z, N and H whatever the last operation was (R131). -/
theorem daa8_znh (a : Byte) (fl : Flags) :
    ((daa8 a fl).2.z = true ↔ (daa8 a fl).1 = 0#8) ∧ (daa8 a fl).2.n = fl.n ∧ (daa8 a fl).2.h = false := by
  unfold daa8
  split <;> exact ⟨decide_eq_true_iff, rfl, rfl⟩

/-- Settles O46: the two ways of DAA, by N. -/
theorem daaAdjustsByTheFlags : Obligations.DaaAdjustsByTheFlags := by
  intro s
  obtain ⟨hz, hn, hh, hc, hlow⟩ := flags_of_pack (t := daa 1 s) rfl
  obtain ⟨hzero, hkeepsN, hclearH⟩ := daa8_znh s.a s.flags
  have ha : (daa 1 s).a = (daa8 s.a s.flags).1 := rfl
  refine ⟨daa 1 s, rfl, rfl, fun hadd => ?_, fun hsub => ?_, hz ▸ hzero, hn.trans hkeepsN, hh.trans hclearH, hlow⟩
  · have hflags : s.flags = ⟨s.flagZ, false, s.flagH, s.flagC⟩ := by rw [State.flags, hadd]
    rw [hc, ha, hflags]
    exact ⟨daa8_toNat_of_add .., daa8_c_of_add ..⟩
  · have hflags : s.flags = ⟨s.flagZ, true, s.flagH, s.flagC⟩ := by rw [State.flags, hsub]
    rw [hc, ha, hflags]
    exact ⟨daa8_toNat_of_sub .., rfl⟩

/-- The two decimal digits of `n` in the nibbles of a byte, as a number: the `bcd` that O47 speaks of (`toNat_ofNat_bcdNat`). -/
def bcdNat (n : Nat) : Nat := 16 * (n / 10) + n % 10

theorem bcdNat_lt {n : Nat} (h : n < 100) : bcdNat n < 154 := by
  unfold bcdNat
  omega

theorem toNat_ofNat_bcdNat {n : Nat} (h : n < 100) : (BitVec.ofNat 8 (bcdNat n)).toNat = bcdNat n := by
  have hlt := bcdNat_lt h
  rw [BitVec.toNat_ofNat]
  omega

/-- What DAA asks of the high digit, of the binary sum of two bytes of decimal digits: whether the decimal sum has a third digit. -/
theorem high_adjust_iff {x y : Nat} (hx : x < 100) (hy : y < 100) :
    (bcdNat x + bcdNat y > 255 ∨ (bcdNat x + bcdNat y) % 256 > 0x99) ↔ 100 ≤ x + y := by
  have hlimit : (bcdNat x + bcdNat y > 255 ∨ (bcdNat x + bcdNat y) % 256 > 0x99) ↔ bcdNat x + bcdNat y > 0x99 := by
    have := bcdNat_lt hx
    have := bcdNat_lt hy
    omega
  rw [hlimit]
  unfold bcdNat
  rcases Nat.lt_or_ge (x / 10 + y / 10) 10 with hhigh | hhigh <;> omega

/-- What DAA asks of the low digit: whether the sum of the low digits carries. -/
theorem low_adjust_iff (x y : Nat) :
    (bcdNat x % 16 + bcdNat y % 16 > 15 ∨ (bcdNat x + bcdNat y) % 256 % 16 > 9) ↔ x % 10 + y % 10 ≥ 10 := by
  unfold bcdNat
  omega

/-- The binary sum of two bytes of decimal digits, adjusted where a decimal digit carries, is the byte of the digits of the decimal
sum. -/
theorem bcdNat_add {x y : Nat} (hx : x < 100) (hy : y < 100) :
    ((bcdNat x + bcdNat y) % 256 + (if 100 ≤ x + y then 0x60 else 0) + (if x % 10 + y % 10 ≥ 10 then 0x06 else 0)) % 256 =
      bcdNat ((x + y) % 100) := by
  unfold bcdNat
  split_ifs <;> omega

theorem bcdNat_eq_zero_iff (n : Nat) : bcdNat n = 0 ↔ n = 0 := by
  unfold bcdNat
  omega

/-- Settles O47: the binary sum and its carries are those of O41, DAA adjusts by them as O46 says, and the rest is arithmetic of
decimal digits. -/
theorem addThenDaaAddsDecimalNumbers : Obligations.AddThenDaaAddsDecimalNumbers := by
  intro x y s t u bcd ha hb ht hu
  have hmod : (x.val + y.val) % 100 < 100 := Nat.mod_lt _ (by decide)
  have hx : s.a.toNat = bcdNat x.val := by rw [ha]; exact toNat_ofNat_bcdNat x.isLt
  have hy : (s.aluValue (.r8 (.reg .b))).toNat = bcdNat y.val := by
    show s.b.toNat = _
    rw [hb]; exact toNat_ofNat_bcdNat y.isLt
  obtain ⟨t', ht', -, hsum, -, hn, hh, hc, -, -⟩ := addAndAdcSumAndFlags false (.r8 (.reg .b)) s
  obtain ⟨u', hu', -, hadd, -, hz, -, -, -⟩ := daaAdjustsByTheFlags t
  obtain rfl : t = t' := Host.Outcome.next.inj (ht.symm.trans ht')
  obtain rfl : u = u' := Host.Outcome.next.inj (hu.symm.trans hu')
  obtain ⟨hdaa, hcarry⟩ := hadd hn
  simp only [hx, hy, Bool.false_eq_true, if_false, Nat.add_zero] at hsum hh hc
  simp only [hsum, hh, hc, high_adjust_iff x.isLt y.isLt, low_adjust_iff, bcdNat_add x.isLt y.isLt] at hdaa hcarry
  have hdigits : u.a = bcd ((x.val + y.val) % 100) := BitVec.eq_of_toNat_eq (hdaa.trans (toNat_ofNat_bcdNat hmod).symm)
  refine ⟨hdigits, hcarry, ?_⟩
  rw [hz, ← BitVec.toNat_inj, hdaa]
  exact bcdNat_eq_zero_iff _

/-! ### CPL, SCF and CCF -/

/-- Settles O48: each packs its flags; complementing A is the exclusive or with 0xFF. -/
theorem cplScfAndCcf : Obligations.CplScfAndCcf := by
  intro s
  have hnot : s.a ^^^ 0xFF#8 = ~~~s.a := BitVec.xor_allOnes
  have hcpl := flags_of_pack (t := complementA 1 s) (fl := ⟨s.flagZ, true, true, s.flagC⟩) rfl
  have hscf := flags_of_pack (t := setCarry 1 s) (fl := ⟨s.flagZ, false, false, true⟩) rfl
  have hccf := flags_of_pack (t := complementCarry 1 s) (fl := ⟨s.flagZ, false, false, !s.flagC⟩) rfl
  refine ⟨⟨_, rfl, ?_, hcpl⟩, ⟨_, rfl, rfl, hscf⟩, _, rfl, rfl, hccf⟩
  rw [← hnot]
  rfl

end Sys2Proof.Machine
end

section
/-! 16-bit arithmetic (spec 42_alu16.md). First on values: the sums and their flags, in numbers. Then on states: ADD HL, O49; INC and
DEC, O50; SP plus a signed byte, O40. -/

namespace Sys2Proof.Machine

/-! ### ADD HL -/

/-- The sum is the exact one modulo 2^16 (R151). -/
theorem addHl16_toNat (x y : Word) (zero : Bool) : (addHl16 x y zero).1.toNat = (x.toNat + y.toNat) % 65536 :=
  BitVec.toNat_ofNat ..

theorem addHl16_h (x y : Word) (zero : Bool) :
    (addHl16 x y zero).2.h = true ↔ x.toNat % 4096 + y.toNat % 4096 > 4095 := decide_eq_true_iff

theorem addHl16_c (x y : Word) (zero : Bool) : (addHl16 x y zero).2.c = true ↔ x.toNat + y.toNat > 65535 :=
  decide_eq_true_iff

/-- After ADD HL the pair HL is the sum: writing its two halves and joining them gives the word back (R22, R151). -/
theorem addHl_hl (rr : R16) (n : Nat) (s : State) : (addHl rr n s).hl = (addHl16 s.hl (s.r16 rr) s.flagZ).1 :=
  joinBytes_hi_lo _

/-- Settles O49: HL and F take the sum and the flags of `addHl16`, which are numbers. -/
theorem addHlSumAndFlags : Obligations.AddHlSumAndFlags := by
  intro rr s v
  have hv : v = s.r16 rr := by cases rr <;> rfl
  obtain ⟨hz, hn, hh, hc, hlow⟩ :=
    flags_of_pack (t := addHl rr 2 s) (fl := (addHl16 s.hl (s.r16 rr) s.flagZ).2) rfl
  refine ⟨addHl rr 2 s, exec_ofAddHl rr s, rfl, ?_, hz, hn, ?_, ?_, hlow⟩
  · rw [hv, ← addHl16_toNat _ _ s.flagZ, ← addHl_hl rr 2]
    rfl
  · rw [hh, addHl16_h, hv]
  · rw [hc, addHl16_c, hv]

/-! ### INC and DEC -/

/-- The registers A to L that a pair is made of (R22, R74). -/
def pairRegs : R16 → List Reg
  | .bc => [.b, .c]
  | .de => [.d, .e]
  | .hl => [.h, .l]
  | .sp => []

theorem r16_setR16_same (s : State) (rr : R16) (v : Word) : (s.setR16 rr v).r16 rr = v := by
  cases rr
  case sp => rfl
  all_goals exact joinBytes_hi_lo v

theorem keepsRegs_setReg_setReg (s : State) (r₁ r₂ : Reg) (v₁ v₂ : Byte) :
    KeepsRegs s ((s.setReg r₁ v₁).setReg r₂ v₂) [r₁, r₂] := by
  intro q hq
  obtain ⟨h₁, h₂⟩ : q ≠ r₁ ∧ q ≠ r₂ := by simpa using hq
  rw [reg_setReg_other _ _ _ _ h₂, reg_setReg_other _ _ _ _ h₁]

/-- Writing a pair writes its two registers, and writing SP none. -/
theorem keepsRegs_setR16 (s : State) (rr : R16) (v : Word) : KeepsRegs s (s.setR16 rr v) (pairRegs rr) := by
  cases rr with
  | bc => exact keepsRegs_setReg_setReg s .b .c (hiByte v) (loByte v)
  | de => exact keepsRegs_setReg_setReg s .d .e (hiByte v) (loByte v)
  | hl => exact keepsRegs_setReg_setReg s .h .l (hiByte v) (loByte v)
  | sp => intro q _; cases q <;> rfl

theorem setR16_sp_of_ne (s : State) (rr : R16) (v : Word) (h : rr ≠ .sp) : (s.setR16 rr v).sp = s.sp := by
  cases rr
  case sp => exact absurd rfl h
  all_goals rfl

/-- Settles O50: INC and DEC are one write of the pair, which reaches neither F nor the environment. -/
theorem incAndDecR16SetNoFlags : Obligations.IncAndDecR16SetNoFlags := by
  intro rr s value written does
  have hvalue : ∀ t, value t = t.r16 rr := by cases rr <;> exact fun _ => rfl
  have hwritten : written = pairRegs rr := by cases rr <;> rfl
  have hwrite : ∀ i v, exec i s = .next ((s.setR16 rr v).finish 2) → does i v := by
    intro i v hexec
    have hregs : KeepsRegs s ((s.setR16 rr v).finish 2) written := by
      intro q hq
      rw [reg_finish, keepsRegs_setR16 s rr v q (hwritten ▸ hq)]
    have hcontrol := ((plain_setR16 s rr v).trans (plain_finish _ 2)).toKeepsControl
    have henv : SameEnv s ((s.setR16 rr v).finish 2) := ⟨busEnv_setR16 s rr v, setR16_bus s rr v⟩
    exact ⟨_, hexec, (hvalue _).trans (r16_setR16_same s rr v), hregs, setR16_f s rr v, setR16_sp_of_ne s rr v,
      setR16_pc s rr v, keepsBytes_of_eq henv.env hcontrol.params, hcontrol, rfl, henv⟩
  rw [hvalue]
  exact ⟨hwrite _ _ (exec_ofInc16 rr s), hwrite _ _ (exec_ofDec16 rr s)⟩

/-! ### SP plus a signed byte -/

/-- The sum is SP plus the byte as a signed number, modulo 2^16 (R150). -/
theorem spAddE8_fst (rule : SpE8Rule) (sp : Word) (e : Byte) :
    (spAddE8 rule sp e).1 = BitVec.ofInt 16 ((sp.toNat : Int) + e.toInt) := by
  rw [BitVec.ofInt_add, BitVec.ofInt_natCast, BitVec.ofNat_toNat, BitVec.setWidth_eq]
  rfl

/-- A byte is negative exactly when its bit 7 is set. -/
theorem bit7_eq_false_iff (e : Byte) : e.getLsbD 7 = false ↔ 0 ≤ e.toInt := by
  have hmsb : e.getLsbD 7 = e.msb := (BitVec.msb_eq_getLsbD_last e).symm
  rw [hmsb, BitVec.msb_eq_toInt, decide_eq_false_iff_not, not_lt]

/-- When H and C are evaluated (R150): for a byte that is not negative, and always under `unsignedLowByte`. -/
theorem spE8_evaluated_iff (rule : SpE8Rule) (e : Byte) :
    (!e.getLsbD 7 || decide (rule = .unsignedLowByte)) = true ↔ 0 ≤ e.toInt ∨ rule = .unsignedLowByte := by
  rw [Bool.or_eq_true, decide_eq_true_iff, Bool.not_eq_true', bit7_eq_false_iff]

theorem spAddE8_h (rule : SpE8Rule) (sp : Word) (e : Byte) : (spAddE8 rule sp e).2.h = true ↔
    (0 ≤ e.toInt ∨ rule = .unsignedLowByte) ∧ sp.toNat % 16 + e.toNat % 16 > 15 := by
  rw [← spE8_evaluated_iff, ← decide_eq_true_iff (p := _ > 15), ← Bool.and_eq_true]
  rfl

theorem spAddE8_c (rule : SpE8Rule) (sp : Word) (e : Byte) : (spAddE8 rule sp e).2.c = true ↔
    (0 ≤ e.toInt ∨ rule = .unsignedLowByte) ∧ sp.toNat % 256 + e.toNat > 255 := by
  rw [← spE8_evaluated_iff, ← decide_eq_true_iff (p := _ > 255), ← Bool.and_eq_true]
  rfl

/-- Settles O40: both instructions take the sum and the flags of `spAddE8`, the one in SP and the other in HL. -/
theorem spPlusSignedByte : Obligations.SpPlusSignedByte := by
  intro e s r evaluated flags
  have hsum : (spAddE8 s.params.spE8Rule s.sp e).1 = r := spAddE8_fst ..
  have hflags : ∀ t : State, t.f = (spAddE8 s.params.spE8Rule s.sp e).2.pack → flags t := by
    intro t hf
    obtain ⟨hz, hn, hh, hc, hlow⟩ := flags_of_pack hf
    exact ⟨hz, hn, by rw [hh, spAddE8_h], by rw [hc, spAddE8_c], hlow⟩
  rw [← hsum]
  exact ⟨⟨addSp e 4 s, rfl, hflags _ rfl, rfl⟩, ldHlSpE8 e 3 s, rfl, hflags _ rfl, rfl⟩

end Sys2Proof.Machine
end

section
/-! Rotates, shifts and bit operations (spec 43_rotate_shift_bit.md). First what they share: the flags of a rotate, and the mask of
a bit. Then the accumulator rotates, O51; the rotates and shifts behind 0xCB, O52; BIT, O53; RES and SET, O54. -/

namespace Sys2Proof.Machine

/-! ### RLCA, RRCA, RLA and RRA -/

/-- What a rotate of the accumulator does (R170 to R173): A and C from `rotate8`, the other flags 0, the duration, and nothing
else. -/
theorem rotA_spec (op : RotOp) (n : Nat) (s : State) :
    rotA op n s = { s with a := (rotA op n s).a, f := (rotA op n s).f, cycles := some n } ∧
    (rotA op n s).a = (rotate8 op s.a s.flagC).1 ∧ (rotA op n s).flagZ = false ∧ (rotA op n s).flagN = false ∧
    (rotA op n s).flagH = false ∧ (rotA op n s).flagC = (rotate8 op s.a s.flagC).2 ∧ (rotA op n s).f &&& 0x0F#8 = 0#8 :=
  ⟨rfl, rfl, flags_of_pack (fl := rotAFlags (rotate8 op s.a s.flagC)) rfl⟩

/-- Settles O51: the four are `rotA`, whose result `rotate8_bits` gives bit by bit. -/
theorem accumulatorRotatesClearZ : Obligations.AccumulatorRotatesClearZ := by
  intro s does
  have hrot : ∀ i op bit out, exec i s = .next (rotA op 1 s) →
      (∀ k, k < 8 → (rotate8 op s.a s.flagC).1.getLsbD k = bit k) → (rotate8 op s.a s.flagC).2 = out → does i bit out := by
    intro i op bit out hexec hbits hout
    obtain ⟨hframe, ha, hz, hn, hh, hc, hlow⟩ := rotA_spec op 1 s
    exact ⟨_, hexec, hframe, fun k hk => by rw [ha, hbits k hk], hz, hn, hh, hc.trans hout, hlow⟩
  exact ⟨hrot _ .rlc _ _ rfl (rotate8_bits .rlc s.a s.flagC) rfl, hrot _ .rrc _ _ rfl (rotate8_bits .rrc s.a s.flagC) rfl,
    hrot _ .rl _ _ rfl (rotate8_bits .rl s.a s.flagC) rfl, hrot _ .rr _ _ rfl (rotate8_bits .rr s.a s.flagC) rfl⟩

/-! ### The rotates and shifts behind 0xCB -/

/-- What a rotate or shift behind 0xCB does (R174 to R182): its operand and F take the value and the flags of `rotate8`. -/
theorem exec_ofRot_next (op : RotOp) (r : R8) (s : State) (hw : s.mem.wf = true) : ∃ t, exec (.ofRot op r) s = .next t ∧
    ModifiesR8 s t r (rotate8 op (s.r8Value r) s.flagC).1 ∧ t.f = (rotFlags (rotate8 op (s.r8Value r) s.flagC)).pack ∧
    t.cycles = some (r.cost 2 4) := by
  refine ⟨_, exec_ofRot op r s, ?_⟩
  simp only [rotR8, readR8_eq, State.flagC, r8After_f]
  exact ⟨modifiesR8_write s r _ hw _ _, rfl, rfl⟩

/-- Settles O52: the value and the flags are those of `rotate8`, whose result `rotate8_bits` gives bit by bit. -/
theorem prefixedRotatesAndShifts : Obligations.PrefixedRotatesAndShifts := by
  intro op r s hw v bit out
  obtain ⟨t, ht, hmod, hf, hcycles⟩ := exec_ofRot_next op r s hw
  obtain ⟨hz, hn, hh, hc, hlow⟩ := flags_of_pack hf
  have hzero : t.flagZ = true ↔ (rotate8 op v s.flagC).1 = 0#8 := by
    rw [hz]
    exact decide_eq_true_iff
  have hout : (rotate8 op v s.flagC).2 = out := by cases op <;> rfl
  exact ⟨t, _, ht, hmod, rotate8_bits op v s.flagC, hzero, hn, hh, hc.trans hout, hlow, hcycles⟩

/-! ### BIT -/

/-- What BIT does (R183): the read of its operand, F from `bitFlags`, and the duration. -/
theorem exec_ofBit_next (u : Fin 8) (r : R8) (s : State) : ∃ t, exec (.ofBit u r) s = .next t ∧
    t = { s.r8After r with f := t.f, cycles := some (r.cost 2 3) } ∧ t.f = (bitFlags u (s.r8Value r) s.flagC).pack := by
  refine ⟨_, exec_ofBit u r s, ?_⟩
  simp only [bitR8, readR8_eq, State.flagC, r8After_f]
  exact ⟨rfl, rfl⟩

/-- Settles O53: Z is whether the operand and the mask of the bit are disjoint. -/
theorem bitTestsOneBit : Obligations.BitTestsOneBit := by
  intro u r s
  obtain ⟨t, ht, hframe, hf⟩ := exec_ofBit_next u r s
  obtain ⟨hz, hn, hh, hc, hlow⟩ := flags_of_pack hf
  have hzero : t.flagZ = true ↔ (s.r8Value r).getLsbD u.val = false := by
    rw [hz, ← and_bitMask]
    exact decide_eq_true_iff
  have hkeeps : KeepsBytes s t [] := (keepsBytes_r8After s r).congr (by rw [hframe]; rfl) (by rw [hframe])
  exact ⟨t, ht, hframe, hzero, hn, hh, hc, hlow, hkeeps⟩

/-! ### RES and SET -/

/-- The complement of the mask of bit u clears that bit and keeps the others (R184). -/
theorem getLsbD_and_not_bitMask (u : Fin 8) (v : Byte) (k : Nat) (hk : k < 8) :
    (v &&& ~~~(0x01#8 <<< u.val)).getLsbD k = if k = u.val then false else v.getLsbD k := by
  rw [BitVec.getLsbD_and, BitVec.getLsbD_not, bitMask_getLsbD u k hk]
  by_cases hku : k = u.val <;> simp [hku, hk]

/-- The mask of bit u sets that bit and keeps the others (R185). -/
theorem getLsbD_or_bitMask (u : Fin 8) (v : Byte) (k : Nat) (hk : k < 8) :
    (v ||| (0x01#8 <<< u.val)).getLsbD k = if k = u.val then true else v.getLsbD k := by
  rw [BitVec.getLsbD_or, bitMask_getLsbD u k hk]
  by_cases hku : k = u.val <;> simp [hku]

@[simp] theorem writeR8_f (s : State) (r : R8) (v : Byte) : (writeR8 r v s).f = s.f := by
  cases r with
  | reg r => exact setReg_f s r v
  | atHl => rfl

/-- An instruction that reads its operand, writes `new` to it, and takes its duration leaves F. -/
theorem writes_of_exec {i : Instr} {s : State} {r : R8} {new : Byte} {n : Nat} (hw : s.mem.wf = true)
    (h : exec i s = .next ((writeR8 r new (s.r8After r)).finish n)) :
    ∃ t, exec i s = .next t ∧ ModifiesR8 s t r new ∧ t.f = s.f ∧ t.cycles = some n :=
  ⟨_, h, modifiesR8_write s r new hw _ _, by simp, rfl⟩

/-- Settles O54: each writes back the operand with the mask of the bit taken out or put in, whatever the bit was. -/
theorem resAndSetChangeOneBit : Obligations.ResAndSetChangeOneBit := by
  intro u r s hw does
  have hres := exec_ofRes u r s
  have hset := exec_ofSet u r s
  simp only [resR8, setR8, readR8_eq] at hres hset
  obtain ⟨t, ht, hmodT, hfT, hcyclesT⟩ := writes_of_exec hw hres
  obtain ⟨w, hsetw, hmodW, hfW, hcyclesW⟩ := writes_of_exec hw hset
  exact ⟨⟨t, _, ht, hmodT, getLsbD_and_not_bitMask u _, hfT, hcyclesT⟩,
    w, _, hsetw, hmodW, getLsbD_or_bitMask u _, hfW, hcyclesW⟩

end Sys2Proof.Machine
end

section
/-! Loads, stores and the stack (spec 44_load.md). First what the parts of a load and of a store leave of the registers. Then the
stores, by the bus writes they make: O35, O37, O39; the loads, by what they read: O32, O33 (with the stores through HL), O34, O36;
the word loads, O38; and PUSH followed by POP, O31. -/

namespace Sys2Proof.Machine

/-! ### Registers -/

theorem KeepsRegs.trans {s t u : State} {l m : List Reg} (h : KeepsRegs s t l) (k : KeepsRegs t u m) : KeepsRegs s u (l ++ m) :=
  fun q hq => (k q fun hm => hq (List.mem_append_right _ hm)).trans (h q fun hl => hq (List.mem_append_left _ hl))

theorem keepsRegs_finish (s : State) (n : Nat) : KeepsRegs s (s.finish n) [] := fun q _ => reg_finish s n q

theorem keepsRegs_busRead (s : State) (addr : Word) : KeepsRegs s (busRead addr s).2 [] := fun q _ => reg_busRead s addr q

theorem keepsRegs_busWrite (s : State) (addr : Word) (v : Byte) : KeepsRegs s (busWrite addr v s) [] :=
  fun q _ => reg_busWrite s addr v q

theorem keepsRegs_setSp (s : State) (v : Word) : KeepsRegs s { s with sp := v } [] := fun q _ => by cases q <;> rfl

theorem keepsRegs_aluAfter (s : State) (x : AluSrc) : KeepsRegs s (s.aluAfter x) [] := fun q _ => by
  have hread := reg_readAluSrc s x q
  rwa [readAluSrc_eq] at hread

theorem keepsRegs_setReg (s : State) (r : Reg) (v : Byte) : KeepsRegs s (s.setReg r v) [r] :=
  fun q hq => reg_setReg_other s r q v (by simpa using hq)

/-- The post-increment or post-decrement of a pointer writes H and L at most (R76). -/
theorem keepsRegs_bumpPtr (s : State) (m : R16mem) : KeepsRegs s (s.bumpPtr m) [.h, .l] := by
  cases m with
  | bc | de => exact fun _ _ => rfl
  | hli => exact keepsRegs_setReg_setReg s .h .l (hiByte (s.hl + 1#16)) (loByte (s.hl + 1#16))
  | hld => exact keepsRegs_setReg_setReg s .h .l (hiByte (s.hl - 1#16)) (loByte (s.hl - 1#16))

/-! ### F, SP and PC -/

theorem KeepsFSpPc.trans {s t u : State} (h : KeepsFSpPc s t) (k : KeepsFSpPc t u) : KeepsFSpPc s u :=
  ⟨k.f.trans h.f, k.sp.trans h.sp, k.pc.trans h.pc⟩

theorem keepsFSpPc_finish (s : State) (n : Nat) : KeepsFSpPc s (s.finish n) := ⟨rfl, rfl, rfl⟩

theorem keepsFSpPc_busWrite (s : State) (addr : Word) (v : Byte) : KeepsFSpPc s (busWrite addr v s) := ⟨rfl, rfl, rfl⟩

/-! ### Pointers and addresses -/

/-- HL after the post-increment or post-decrement of a pointer (R76). -/
theorem bumpPtr_hl (s : State) (m : R16mem) : (s.bumpPtr m).hl =
    match m with | .bc => s.hl | .de => s.hl | .hli => s.hl + 1#16 | .hld => s.hl - 1#16 := by
  cases m with
  | bc | de => rfl
  | hli | hld => exact joinBytes_hi_lo _

/-- The high-page address as a sum of numbers, which no byte takes past 0xFFFF (R81). -/
theorem highPage_eq (n : Byte) : highPage n = BitVec.ofNat 16 (0xFF00 + n.toNat) := by
  rw [BitVec.ofNat_add, BitVec.ofNat_toNat]
  rfl

/-! ### Stores -/

theorem sameEnv_finish (s : State) (n : Nat) : SameEnv s (s.finish n) := ⟨rfl, rfl⟩

/-- The bytes of a state whose environment is what one bus write left (R51, R52). -/
theorem bytes_of_busWrite {s t : State} {addr : Word} {v : Byte} (hw : s.mem.wf = true) (henv : SameEnv (busWrite addr v s) t)
    (hp : t.params = s.params) :
    (s.params.bus = .ram → t.peek addr = s.stored addr v) ∧ KeepsBytes s t [addr] :=
  ⟨fun hr => (peek_congr henv.env hp addr).trans (peek_busWrite_same hr addr v hw),
    (keepsBytes_busWrite s addr v).congr henv.env hp⟩

/-- An instruction that is one bus write stores its byte and changes nothing else. -/
theorem stores_of_exec {i : Instr} {s : State} {addr : Word} {v : Byte} {n : Nat} (hw : s.mem.wf = true)
    (h : exec i s = .next ((busWrite addr v s).finish n)) : ∃ t, exec i s = .next t ∧
      (s.params.bus = .ram → t.peek addr = s.stored addr v) ∧ KeepsBytes s t [addr] ∧ KeepsRegs s t [] ∧ KeepsFSpPc s t ∧
      KeepsControl s t ∧ t.cycles = some n ∧ SameEnv (busWrite addr v s) t := by
  have hcontrol := ((plain_busWrite s addr v).trans (plain_finish _ n)).toKeepsControl
  obtain ⟨hbyte, hkeeps⟩ := bytes_of_busWrite hw (sameEnv_finish _ n) hcontrol.params
  exact ⟨_, h, hbyte, hkeeps, (keepsRegs_busWrite s addr v).trans (keepsRegs_finish _ n),
    (keepsFSpPc_busWrite s addr v).trans (keepsFSpPc_finish _ n), hcontrol, rfl, sameEnv_finish _ n⟩

/-- Settles O35: the write at the pointer, then the step of HL, which leaves the environment. -/
theorem accumulatorStoresThroughPairs : Obligations.AccumulatorStoresThroughPairs := by
  intro m s hw ptr hl'
  have hptr : ptr = s.memPtr m := by cases m <;> rfl
  have henv : SameEnv (busWrite ptr s.a s) (ldMemA m 2 s) := by
    rw [hptr]
    exact ⟨busEnv_bumpPtr _ m, bumpPtr_bus _ m⟩
  have hcontrol := (plain_ldMemA s m 2).toKeepsControl
  obtain ⟨hbyte, hkeeps⟩ := bytes_of_busWrite hw henv hcontrol.params
  exact ⟨_, exec_ofLdMemFromA m s, hbyte, hkeeps, bumpPtr_hl (busWrite _ s.a s) m,
    (keepsRegs_busWrite s _ s.a).trans (keepsRegs_bumpPtr _ m), ⟨bumpPtr_f _ m, bumpPtr_sp _ m, bumpPtr_pc _ m⟩,
    hcontrol, rfl, henv⟩

/-- Settles O37: each is one bus write, after which IF and IE are as R63 says. -/
theorem accumulatorStoresToAddresses : Obligations.AccumulatorStoresToAddresses := by
  intro s hw stores
  have hstore : ∀ i addr n, exec i s = .next (ldAddrA addr n s) → stores i addr n := by
    intro i addr n hexec
    obtain ⟨t, ht, hbyte, hkeeps, hregs, hf, hcontrol, hcycles, henv⟩ := stores_of_exec hw hexec
    refine ⟨t, ht, hbyte, hkeeps, hregs, hf, hcontrol, hcycles, henv, fun hif => ?_, fun hie hne => ?_⟩
    · have hwritten : t.ifReg = (busWrite addr s.a s).ifReg := congrArg BusEnv.ifReg henv.env
      rw [hwritten, ifReg_of_busWrite, if_pos hif]
      rfl
    · have hwritten : t.ieReg = (busWrite addr s.a s).ieReg := congrArg BusEnv.ieReg henv.env
      rw [hwritten, ieReg_of_busWrite, if_pos ⟨hie, hie ▸ hne⟩]
      rfl
  refine ⟨fun n => hstore _ _ _ rfl, fun n => ?_, ?_⟩
  · rw [← highPage_eq]
    exact hstore _ _ _ rfl
  · rw [← highPage_eq]
    exact hstore _ _ _ rfl

/-- The bytes of a state whose environment is what two bus writes left, at two addresses (R51, R52). -/
theorem bytes_of_busWrite_twice {s t : State} {a b : Word} {v w : Byte} (hw : s.mem.wf = true) (hne : a ≠ b)
    (henv : SameEnv (busWrite b w (busWrite a v s)) t) (hp : t.params = s.params) :
    (s.params.bus = .ram → t.peek a = s.stored a v ∧ t.peek b = s.stored b w) ∧ KeepsBytes s t [a, b] := by
  have hparams : t.params = (busWrite b w (busWrite a v s)).params := by rw [hp, busWrite_params, busWrite_params]
  refine ⟨fun hr => ?_, (keepsBytes_busWrite_twice s a b v w).congr henv.env hparams⟩
  rw [peek_congr henv.env hparams, peek_congr henv.env hparams]
  exact peek_busWrite_twice hr hw hne v w

/-- Settles O39: two bus writes, at two addresses. -/
theorem spIsStoredLowByteFirst : Obligations.SpIsStoredLowByteFirst := by
  intro n s hw
  have hne : n ≠ n + 1#16 := by bv_omega
  have hplain := ((plain_busWrite s n (loByte s.sp)).trans (plain_busWrite _ (n + 1#16) (hiByte s.sp))).trans (plain_finish _ 5)
  have hregs := ((keepsRegs_busWrite s n (loByte s.sp)).trans (keepsRegs_busWrite _ (n + 1#16) (hiByte s.sp))).trans
    (keepsRegs_finish _ 5)
  have hf := ((keepsFSpPc_busWrite s n (loByte s.sp)).trans (keepsFSpPc_busWrite _ (n + 1#16) (hiByte s.sp))).trans
    (keepsFSpPc_finish _ 5)
  obtain ⟨hstored, hkeeps⟩ := bytes_of_busWrite_twice hw hne (sameEnv_finish _ 5) hplain.params
  exact ⟨_, rfl, hstored, hkeeps, hregs, hf, hplain.toKeepsControl, rfl, sameEnv_finish _ 5⟩

/-! ### Loads -/

/-- A load of a register from a register, from (HL) or of an immediate (R200, R201, R202): the register takes the value of the
source, and nothing else changes but by the read of the source. -/
theorem loads_of_exec {i : Instr} {s : State} {dst : Reg} {x : AluSrc} {n : Nat}
    (h : exec i s = .next (((s.aluAfter x).setReg dst (s.aluValue x)).finish n)) : ∃ t, exec i s = .next t ∧
      t.reg dst = s.aluValue x ∧ KeepsRegs s t [dst] ∧ KeepsFSpPc s t ∧ KeepsBytes s t [] ∧ KeepsControl s t ∧
      t.cycles = some n ∧ SameEnv (s.aluAfter x) t := by
  have hread : Plain s (s.aluAfter x) := by
    have hplain := plain_readAluSrc s x
    rwa [readAluSrc_eq] at hplain
  refine ⟨_, h, ?_, (keepsRegs_aluAfter s x).trans (keepsRegs_setReg _ dst _), ⟨?_, ?_, ?_⟩,
    (keepsBytes_aluAfter s x).congr (busEnv_setReg _ dst _) (setReg_params _ dst _),
    ((hread.trans (plain_setReg _ dst _)).trans (plain_finish _ n)).toKeepsControl, rfl,
    busEnv_setReg _ dst _, setReg_bus _ dst _⟩
  all_goals simp

/-- Settles O32: the source of the one is a register, of the other the immediate. -/
theorem registerAndImmediateLoads : Obligations.RegisterAndImmediateLoads := by
  intro dst s loads
  exact ⟨fun r => loads_of_exec (x := .r8 (.reg r)) (exec_ofLd dst r s),
    fun n => loads_of_exec (x := .n8 n) (exec_ofLdN8 dst n s)⟩

/-- Settles O33: the loads have (HL) as their source, and each store is one bus write at HL. -/
theorem loadsAndStoresThroughHl : Obligations.LoadsAndStoresThroughHl := by
  intro s hw stores
  exact ⟨fun dst => loads_of_exec (x := .r8 .atHl) (exec_ofLdFromHl dst s), fun r => stores_of_exec hw (exec_ofLdToHl r s),
    fun n => stores_of_exec hw rfl⟩

/-- Settles O34: the read at the pointer, A, then the step of HL. -/
theorem accumulatorLoadsThroughPairs : Obligations.AccumulatorLoadsThroughPairs := by
  intro m s ptr hl'
  have hptr : ptr = s.memPtr m := by cases m <;> rfl
  have henv : SameEnv (busRead ptr s).2 (ldAMem m 2 s) := by
    rw [hptr]
    exact ⟨busEnv_bumpPtr _ m, bumpPtr_bus _ m⟩
  have hcontrol := (plain_ldAMem s m 2).toKeepsControl
  have ha : (ldAMem m 2 s).a = s.peek ptr := by
    rw [hptr]
    exact bumpPtr_a _ m
  exact ⟨_, exec_ofLdAFromMem m s, ha, bumpPtr_hl _ m,
    ((keepsRegs_busRead s _).trans (keepsRegs_setReg _ .a _)).trans (keepsRegs_bumpPtr _ m),
    ⟨bumpPtr_f _ m, bumpPtr_sp _ m, bumpPtr_pc _ m⟩, (keepsBytes_busRead s ptr).congr henv.env hcontrol.params,
    hcontrol, rfl, henv⟩

/-- Settles O36: each is `ldAAddr` at its address, and IF and IE answer at theirs (R63). -/
theorem accumulatorLoadsFromAddresses : Obligations.AccumulatorLoadsFromAddresses := by
  intro s loaded
  refine ⟨fun addr n => ⟨(keepsBytes_busRead s addr).congr rfl rfl, fun hif => ?_, fun hie hne => ?_⟩,
    fun n => rfl, fun n => ?_, ?_⟩
  · subst hif
    exact peek_ifAddr s
  · subst hie
    exact peek_ieAddr s hne
  · rw [← highPage_eq]
    rfl
  · rw [← highPage_eq]
    rfl

/-- Settles O38: each writes its pair, or SP, and the duration. -/
theorem wordLoadsIntoPairsAndSp : Obligations.WordLoadsIntoPairsAndSp := fun n s =>
  ⟨exec_ofLdR16 .bc n s, exec_ofLdR16 .de n s, exec_ofLdR16 .hl n s, exec_ofLdR16 .sp n s, rfl⟩

/-! ### PUSH followed by POP -/

/-- Away from IF and IE a byte stored reads back whole (R63). -/
theorem stored_of_ne {s : State} {addr : Word} (h : addr ≠ s.params.ifAddr ∧ addr ≠ s.params.ieAddr) (v : Byte) :
    s.stored addr v = v := if_neg (not_or.mpr h)

/-- Under `RamBus` the word pushed is the word on the stack, where neither of its bytes falls on IF or IE (R52, R55, R56). -/
theorem stackTop_of_pushed {s t : State} {v : Word} (p : Pushed s t v) (hp : t.params = s.params) (hr : s.params.bus = .ram)
    (hne : ∀ a ∈ [s.sp - 1#16, s.sp - 2#16], a ≠ s.params.ifAddr ∧ a ≠ s.params.ieAddr) : t.stackTop = v := by
  have hhigh := hne _ List.mem_cons_self
  have hlow := hne _ (List.mem_cons_of_mem _ List.mem_cons_self)
  have hsp : t.sp + 1#16 = s.sp - 1#16 := by
    rw [p.sp]
    bv_omega
  have hlo : t.peek t.sp = loByte v := by rw [p.sp, p.low hr, stored_of_ne hlow]
  have hhi : (busRead t.sp t).2.peek (t.sp + 1#16) = hiByte v := by
    rw [peek_busRead_ram (by rw [hp, hr]), hsp, p.high hr, stored_of_ne hhigh]
  rw [State.stackTop, busRead_fst, busRead_fst, hlo, hhi, joinBytes_hi_lo]

theorem and_f0_of_low {f : Byte} (h : f &&& 0x0F#8 = 0#8) : f &&& 0xF0#8 = f := by
  have all : ∀ f : Byte, f &&& 0x0F#8 = 0#8 → f &&& 0xF0#8 = f := by decide
  exact all f h

/-- A pair is a function of the registers and F. -/
theorem r16stk_congr {s t : State} (h : KeepsRegs s t []) (hf : t.f = s.f) (rr : R16stk) : t.r16stk rr = s.r16stk rr := by
  have hreg : ∀ q, t.reg q = s.reg q := fun q => h q List.not_mem_nil
  cases rr with
  | bc => exact congrArg₂ joinBytes (hreg .b) (hreg .c)
  | de => exact congrArg₂ joinBytes (hreg .d) (hreg .e)
  | hl => exact congrArg₂ joinBytes (hreg .h) (hreg .l)
  | af => exact congrArg₂ joinBytes (hreg .a) (congrArg (· &&& 0xF0#8) hf)

/-- Writing a pair with the value it has changes nothing, F included where its bits 3..0 are 0. -/
theorem setR16stk_r16stk (s : State) (rr : R16stk) (hlow : s.f &&& 0x0F#8 = 0#8) : s.setR16stk rr (s.r16stk rr) = s := by
  cases rr with
  | bc => simp [State.setR16stk, State.setBc, State.r16stk, State.bc]
  | de => simp [State.setR16stk, State.setDe, State.r16stk, State.de]
  | hl => simp [State.setR16stk, State.setHl, State.r16stk, State.hl]
  | af => simp [State.setR16stk, State.setAf, State.r16stk, State.af, and_f0_of_low hlow]

theorem keepsRegs_popAfter (s : State) : KeepsRegs s s.popAfter [] :=
  (keepsRegs_busRead s s.sp).trans (keepsRegs_busRead _ (s.sp + 1#16))

/-- POP of the word that the pair already holds changes SP, besides what its two reads do, and nothing else. -/
theorem popR16_of_stackTop_eq {rr : R16stk} {s : State} (n : Nat) (hlow : s.f &&& 0x0F#8 = 0#8)
    (htop : s.stackTop = s.r16stk rr) : popR16 rr n s = State.finish { s.popAfter with sp := s.sp + 2#16 } n := by
  have hregs : KeepsRegs s { s.popAfter with sp := s.sp + 2#16 } [] := (keepsRegs_popAfter s).trans (keepsRegs_setSp _ _)
  rw [popR16_eq, htop, ← r16stk_congr hregs (popAfter_f s), setR16stk_r16stk _ rr (by simpa using hlow)]

/-- Settles O31: PUSH leaves the pair on the stack, in the registers and in F, so POP pops the word that the pair already holds. -/
theorem pushThenPopRestoresThePair : Obligations.PushThenPopRestoresThePair := by
  intro rr s t u hr hw hlow hne ht hu
  obtain ⟨t', ht', hpushed, hpc, -, hregs, hf, hcontrol⟩ := pushStoresHighThenLow rr s hw
  obtain rfl : t = t' := Host.Outcome.next.inj (ht.symm.trans ht')
  obtain rfl : popR16 rr 3 t = u := Host.Outcome.next.inj ((exec_ofPop rr t).symm.trans hu)
  have hpair : Pushed s t (s.r16stk rr) := by cases rr <;> exact hpushed
  have htop : t.stackTop = t.r16stk rr := by
    rw [stackTop_of_pushed hpair hcontrol.params hr hne, r16stk_congr hregs hf]
  have hpopped : KeepsRegs s t.popAfter [] := hregs.trans (keepsRegs_popAfter t)
  rw [popR16_of_stackTop_eq 3 (by rw [hf, hlow]) htop]
  refine ⟨(hpopped.trans (keepsRegs_setSp _ _)).trans (keepsRegs_finish _ 3), ?_, ?_, ?_⟩
  · exact (popAfter_f t).trans hf
  · show t.sp + 2#16 = s.sp
    rw [hpair.sp, BitVec.sub_add_cancel]
  · exact (popAfter_pc t).trans hpc

end Sys2Proof.Machine
end

section
/-! Control transfer (spec 45_control.md). First the conditions, and what a conditional instruction does when its condition holds and
when it does not. Then jumps, O25 and O26; calls, by what the push does, O27; and returns, by the two reads of the pop, O28. -/

namespace Sys2Proof.Machine

/-! ### Conditions -/

/-- When a condition holds, by the flag it tests (R240). -/
theorem cond_iff (s : State) (cc : Cond) : s.cond cc = true ↔
    match cc with
    | .nz => s.flagZ = false | .z => s.flagZ = true | .nc => s.flagC = false | .c => s.flagC = true := by
  cases cc with
  | z | c => exact Iff.rfl
  | nz | nc => exact .of_eq (Bool.not_eq_true' _)

/-- An instruction with one outcome for a condition that holds, in whatever words, and one for a condition that does not. -/
theorem exec_of_cond {i : Instr} {s taken notTaken : State} {cc : Cond} {p : Prop} (hp : s.cond cc = true ↔ p)
    (h : exec i s = .next (if s.cond cc then taken else notTaken)) :
    (p → exec i s = .next taken) ∧ (¬ p → exec i s = .next notTaken) :=
  ⟨fun hc => by rw [h, if_pos (hp.mpr hc)], fun hc => by rw [h, if_neg (mt hp.mp hc)]⟩

/-! ### Jumps -/

/-- Settles O25: each writes PC or, not taken, nothing but the duration. -/
theorem jumpsSetPc : Obligations.JumpsSetPc := by
  intro s n
  refine ⟨rfl, rfl, ?_⟩
  intro cc holds
  exact exec_of_cond (cond_iff s cc) (exec_ofJp cc n s)

/-- The target of a relative jump as a sum of integers, modulo 2^16 (R244). -/
theorem add_sext16_eq (pc : Word) (e : Byte) : pc + sext16 e = BitVec.ofInt 16 ((pc.toNat : Int) + e.toInt) := by
  rw [BitVec.ofInt_add, BitVec.ofInt_natCast, BitVec.ofNat_toNat, BitVec.setWidth_eq]
  rfl

/-- Settles O26: each adds the sign-extended byte to PC or, not taken, writes nothing but the duration. -/
theorem relativeJumpsAddTheSignedByte : Obligations.RelativeJumpsAddTheSignedByte := by
  intro s e target
  have htarget : s.pc + sext16 e = target := add_sext16_eq s.pc e
  rw [← htarget]
  refine ⟨rfl, ?_⟩
  intro cc holds
  exact exec_of_cond (cond_iff s cc) (exec_ofJr cc e s)

/-! ### Calls -/

/-- What `Push16` did is still so when only PC and the cycle count are written after it. -/
theorem Pushed.jump {s t : State} {v : Word} (p : Pushed s t v) (target : Word) (n : Nat) : Pushed s (jump target n t) v where
  sp := p.sp
  env := ⟨p.env.env, p.env.bus⟩
  high := p.high
  low := p.low
  bytes := p.bytes.congr rfl rfl

theorem keepsRegs_push16 (s : State) (v : Word) : KeepsRegs s (push16 v s) [] := fun q _ => reg_push16 s v q

theorem keepsRegs_jump (s : State) (target : Word) (n : Nat) : KeepsRegs s (jump target n s) [] := fun q _ => by cases q <;> rfl

/-- An instruction that is a call pushes PC, goes to its target and changes nothing else (R246). -/
theorem calls_of_exec {i : Instr} {s : State} {target : Word} {n : Nat} (hw : s.mem.wf = true)
    (h : exec i s = .next (call target n s)) : ∃ t, exec i s = .next t ∧ t.pc = target ∧ Pushed s t s.pc ∧
      t.cycles = some n ∧ KeepsRegs s t [] ∧ t.f = s.f ∧ KeepsControl s t :=
  ⟨_, h, rfl, (push16_pushed s s.pc hw).jump target n, rfl, (keepsRegs_push16 s s.pc).trans (keepsRegs_jump _ target n),
    push16_f s s.pc, (plain_call s target n).toKeepsControl⟩

/-- Settles O27: each is a call or, not taken, nothing but the duration. -/
theorem callsPushTheReturnAddress : Obligations.CallsPushTheReturnAddress := by
  intro s hw does
  refine ⟨fun n => calls_of_exec hw rfl, fun y => calls_of_exec hw (exec_ofRst y s), ?_⟩
  intro cc n holds
  obtain ⟨htaken, hnot⟩ := exec_of_cond (cond_iff s cc) (exec_ofCall cc n s)
  exact ⟨fun h => calls_of_exec hw (htaken h), hnot⟩

/-! ### Returns -/

/-- RET makes the two bus reads, moves SP and goes to the word that was read (R248). -/
theorem ret_eq (n : Nat) (s : State) :
    ret n s = { s.popAfter with pc := s.stackTop, sp := s.sp + 2#16, cycles := some n } := by
  rw [ret, pop16_eq]
  rfl

/-- Settles O28: each is RET, RETI with ime set besides, or, not taken, nothing but the duration. -/
theorem returnsPopThePc : Obligations.ReturnsPopThePc := by
  intro s lo hi popped
  have hret : ∀ n, ret n s = popped n := fun n => ret_eq n s
  have hretExec : exec .ret s = .next (ret 4 s) := rfl
  have hretiExec : exec .reti s = .next { ret 4 s with ime := true } := rfl
  refine ⟨(keepsBytes_popAfter s).congr rfl rfl, hretExec.trans (by rw [hret]), hretiExec.trans (by rw [hret]), ?_⟩
  intro cc holds
  rw [← hret 5]
  exact exec_of_cond (cond_iff s cc) (exec_ofRet cc s)

end Sys2Proof.Machine
end

section
/-! System and low-power instructions (spec 46_system.md): NOP, DI and EI, O21; HALT, O22; STOP, its fetch included, O23. -/

namespace Sys2Proof.Machine

/-- Settles O21: the meaning of each is one update of the state, with its duration. -/
theorem nopDiAndEiEffects : Obligations.NopDiAndEiEffects := fun _ => ⟨rfl, rfl, rfl⟩

/-! ### HALT -/

/-- HALT arms the HALT bug, and does not halt, with interrupts masked and one pending and enabled (R271). -/
theorem halt_of_pend {s : State} (n : Nat) (hi : s.ime = false) (hp : s.pend ≠ 0#8) :
    halt n s = { s with haltBug := true, cycles := some n } := if_pos ⟨hi, hp⟩

/-- HALT halts in every other case (R271). -/
theorem halt_of_ime_or_not_pend {s : State} (n : Nat) (h : s.ime = true ∨ s.pend = 0#8) :
    halt n s = { s with halted := true, cycles := some n } := by
  refine if_neg ?_
  rintro ⟨hi, hp⟩
  exact h.elim (by simp [hi]) hp

/-- Settles O22: the test of HALT is `State.pend`, the five low bits of IF and IE. -/
theorem haltHaltsOrArmsTheBug : Obligations.HaltHaltsOrArmsTheBug := by
  intro s
  have hexec : exec .halt s = .next (halt 1 s) := rfl
  rw [hexec]
  exact ⟨fun hi hp => congrArg _ (halt_of_pend 1 hi hp), fun h => congrArg _ (halt_of_ime_or_not_pend 1 h)⟩

/-! ### STOP -/

theorem stop_of_fault {s : State} (n : Nat) (h : s.params.stopMode = .fault) : stop n s = s.raise .stopUnmodelled := by
  rw [stop, h]

theorem stop_of_nop {s : State} (n : Nat) (h : s.params.stopMode = .nop) : stop n s = s.finish n := by
  rw [stop, h]

/-- STOP writes the fault and the duration, and nothing else (R272, R315). -/
theorem stop_frame (n : Nat) (s : State) : stop n s = { s with fault := (stop n s).fault, cycles := (stop n s).cycles } := by
  cases h : s.params.stopMode with
  | fault => rw [stop_of_fault n h]; rfl
  | nop => rw [stop_of_nop n h]; rfl

/-- The fault after STOP, by STOP_MODE (R272, R313). -/
theorem stop_fault (n : Nat) (s : State) :
    (stop n s).fault = if s.params.stopMode = .fault then some .stopUnmodelled else s.fault := by
  cases h : s.params.stopMode with
  | fault => rw [stop_of_fault n h]; rfl
  | nop => rw [stop_of_nop n h]; rfl

@[simp] theorem endStep_pc (due : Bool) (s : State) : (endStep due s).pc = s.pc := by rw [endStep_eq]
@[simp] theorem endStep_bus (due : Bool) (s : State) : (endStep due s).bus = s.bus := by rw [endStep_eq]

/-- The fetch of a row with one operand byte, no HALT bug armed: two bus reads, at PC and then at the address after it, and PC ends
two higher (R105, R109). -/
theorem fetchInstr_of_imm8 {s : State} {mk : Byte → Instr} (hb : s.haltBug = false)
    (h : (unprefixedDescriptor (s.peek s.pc)).slot = .imm8 mk) :
    fetchInstr s = (mk ((busRead s.pc s).2.peek (s.pc + 1#16)),
      { (busRead (s.pc + 1#16) (busRead s.pc s).2).2 with haltBug := false, pc := s.pc + 2#16 }) := by
  have hpc : s.pc + 1#16 + 1#16 = s.pc + 2#16 := by bv_omega
  simp only [fetchInstr, fetchOpcode_eq, busRead_fst, h, hb, readImm8, busRead_setFetch, Bool.false_eq_true, if_false, hpc]

/-- Settles O23: what STOP_MODE says; then the fetch of the two bytes, of which STOP writes neither PC nor the bus log. -/
theorem stopDoesWhatStopModeSays : Obligations.StopDoesWhatStopModeSays := by
  have hexec : ∀ (n : Byte) (s : State), exec (.stop n) s = .next (stop 1 s) := fun _ _ => rfl
  constructor
  · intro s n
    rw [hexec]
    exact ⟨fun h => congrArg _ (stop_of_fault 1 h), fun h => congrArg _ (stop_of_nop 1 h)⟩
  · intro s hr hb hop
    have hslot : (unprefixedDescriptor (s.awake.peek s.awake.pc)).slot = .imm8 .stop := by rw [hop]; rfl
    have hfetch := fetchInstr_of_imm8 hb hslot
    have hrun : exec (fetchInstr s.awake).1 (fetchInstr s.awake).2 = .next (stop 1 (fetchInstr s.awake).2) := by
      rw [hfetch]; exact hexec _ _
    have hbus : s.awake.bus = [] := beginStep_bus s
    refine ⟨_, (step_of_runs hr).trans (runInstr_next hrun), ?_, ?_, ?_⟩
    · rw [endStep_pc, stop_frame, hfetch]
    · rw [endStep_bus, stop_frame, hfetch]
      simp [hbus, hop]
    · rw [endStep_fault, stop_fault, fetchInstr_params, awake_params, fetchInstr_fault, awake_fault, hr.1]

end Sys2Proof.Machine
end

section
/-! Faults (spec 60_exceptions.md R311 to R314): what an instruction leaves of the fault, and that every other step goes on, O58. -/

namespace Sys2Proof.Machine

theorem reti_fault (n : Nat) (s : State) : (reti n s).fault = s.fault := by
  simp [reti, returnFromInterrupt]

theorem halt_fault (n : Nat) (s : State) : (halt n s).fault = s.fault := by
  unfold halt
  split <;> rfl

/-- A state that holds no fault has a step: the idle one, a service, or the instruction at PC, which is never refused (R101, R112). -/
theorem exists_step_of_fault_none {s : State} (hf : s.fault = none) : ∃ t, step s = .next t := by
  by_cases hi : s.beginStep.idle
  · exact ⟨_, step_of_idle hf hi⟩
  by_cases hs : s.beginStep.serviceable
  · exact ⟨_, step_of_serviceable hf hi hs⟩
  obtain ⟨u, hu, -⟩ := exec_cases (fetchInstr s.awake).1 (fetchInstr s.awake).2
  exact ⟨_, (step_of_runs ⟨hf, hi, hs⟩).trans (runInstr_next hu)⟩

/-- Settles O58: of the instructions that write the control state, only STOP and the UNUSED rows write the fault; and a step looks at
the fault first. -/
theorem faultsComeOnlyFromUnusedAndStop : Obligations.FaultsComeOnlyFromUnusedAndStop := by
  constructor
  · intro i s
    obtain ⟨t, ht, hc⟩ := exec_cases i s
    refine ⟨t, ht, ?_⟩
    rcases hc with p | ⟨-, rfl⟩ | ⟨-, rfl⟩ | ⟨-, rfl⟩ | ⟨-, rfl⟩ | ⟨n, hn, rfl⟩ | ⟨op, hrow, rfl⟩
    · exact .inl p.fault
    · exact .inl (reti_fault 4 s)
    · exact .inl (halt_fault 1 s)
    · exact .inl rfl
    · exact .inl rfl
    · rw [stop_fault]
      split_ifs with hmode
      · exact .inr (.inr ⟨n, hn, hmode, rfl⟩)
      · exact .inl rfl
    · exact .inr (.inl ⟨op, hrow, rfl⟩)
  · intro s
    cases hf : s.fault with
    | none => exact .inl (exists_step_of_fault_none hf)
    | some f => exact .inr ⟨f, rfl, faultedStateHasNoStep s f hf⟩

end Sys2Proof.Machine
end

section
/-! The interrupt service (spec 60_exceptions.md R300 to R308): the state after a step that services, O16; then a halted core, which
wakes to it or goes on, O15. -/

namespace Sys2Proof.Machine

/-! ### The service -/

/-- The service does not depend on whether the core was halted (R304). -/
theorem serviceInterrupt_setHalted (s : State) (b : Bool) : serviceInterrupt { s with halted := b } = serviceInterrupt s := rfl

/-- The end of a service step commits an enable that was armed before it; the service itself has cleared ime (R110, R304). -/
theorem endStep_serviceInterrupt {s : State} (hf : s.fault = none) : endStep s.imePending (serviceInterrupt s) =
    { serviceInterrupt s with ime := s.imePending, imePending := false } := by
  rw [endStep_eq]
  simp [hf]

/-- A step that services an interrupt: the service, from the state as the environment left it, and the commit (R104, R110). -/
theorem step_of_service {s : State} (hf : s.fault = none) (hs : s.beginStep.serviceable) : step s =
    .next { serviceInterrupt s.beginStep with ime := s.beginStep.imePending, imePending := false } := by
  have hidle : ¬ s.beginStep.idle := fun hi => hs.2 hi.2
  rw [step_of_serviceable hf hidle hs, State.awake, serviceInterrupt_setHalted, ← beginStep_imePending,
    endStep_serviceInterrupt ((beginStep_fault s).trans hf)]

/-- Bits 7..5 of IF and IE answer as 0, the others as they are held (R63). -/
theorem getLsbD_irqBits (v : Byte) (j : Nat) : (irqBits v).getLsbD j = (v.getLsbD j && decide (j < 5)) := by
  by_cases hj : j < 8
  · have hmask : ∀ j < 8, (0x1F#8).getLsbD j = decide (j < 5) := by decide
    rw [irqBits, BitVec.getLsbD_and, hmask j hj]
  · rw [BitVec.getLsbD_of_ge _ _ (by omega), BitVec.getLsbD_of_ge _ _ (by omega), Bool.false_and]

/-- IF after a push: as it was, unless one of the two bytes is pushed onto it (R55, R63). -/
theorem push16_ifReg (s : State) (v : Word) : (push16 v s).ifReg =
    if s.sp - 2#16 = s.params.ifAddr then irqBits (loByte v)
    else if s.sp - 1#16 = s.params.ifAddr then irqBits (hiByte v) else s.ifReg := by
  rw [push16_eq]
  show (busWrite _ _ _).ifReg = _
  rw [ifReg_of_busWrite, ifReg_of_busWrite, busWrite_params]

/-- What is written to IF plays no part at another address of `RamBus` (R52, R63). -/
theorem peek_of_ne_ifAddr {s t : State} (hr : s.params.bus = .ram) (hp : t.params = s.params) (hm : t.mem = s.mem)
    (he : t.ieReg = s.ieReg) {a : Word} (ha : a ≠ s.params.ifAddr) : t.peek a = s.peek a := by
  simp only [State.peek, hp, envRead_ram hr, irqRead, State.busEnv, hm, he, if_neg ha]

/-- IF after the service, bit by bit: bit k is clear, and the others are those of IF, or of the byte pushed onto it (R63, R304). -/
theorem serviceInterrupt_ifReg_getLsbD {s : State} (hs : s.pend ≠ 0#8) (j : Nat) :
    (serviceInterrupt s).ifReg.getLsbD j =
      ((if s.sp - 2#16 = s.params.ifAddr then loByte s.pc
        else if s.sp - 1#16 = s.params.ifAddr then hiByte s.pc else s.ifReg).getLsbD j &&
          decide (j < 5) && decide (j ≠ lowestBit s.pend)) := by
  rw [serviceInterrupt_eq, irqBits_clear _ _ _ (lowestBit_spec s hs).1, push16_ifReg]
  split_ifs
  · simp only [getLsbD_irqBits, Bool.and_assoc, Bool.and_self_left]
  · simp only [getLsbD_irqBits, Bool.and_assoc, Bool.and_self_left]
  · rfl

/-- A byte that is not IF is after the service as the push left it (R304). -/
theorem peek_serviceInterrupt {s : State} (hr : s.params.bus = .ram) {a : Word} (ha : a ≠ s.params.ifAddr) :
    (serviceInterrupt s).peek a = (push16 s.pc s).peek a := by
  have hp : (push16 s.pc s).params = s.params := push16_params s s.pc
  have hmem : (serviceInterrupt s).mem = (push16 s.pc s).mem := by rw [serviceInterrupt_eq]
  have hie : (serviceInterrupt s).ieReg = (push16 s.pc s).ieReg := by rw [serviceInterrupt_eq]
  rw [← hp] at hr ha
  exact peek_of_ne_ifAddr hr ((serviceInterrupt_params s).trans hp.symm) hmem hie ha

/-- Settles O16: the source chosen is `lowestBit`, and what the service leaves in memory is what `Push16` left. -/
theorem serviceTakesTheHighestPriority : Obligations.ServiceTakesTheHighestPriority := by
  intro s hf hw hs s0
  obtain ⟨hk, hset, hfirst⟩ := lowestBit_spec s0 hs.2
  have hpushed := push16_pushed s0 s0.pc hw
  obtain ⟨hmem, hdevice, -, hie⟩ := BusEnv.mk.inj hpushed.env.env
  refine ⟨_, lowestBit s0.pend, step_of_service hf hs, hk, hset, hfirst, rfl, hpushed.sp, fun hr => ⟨fun ha => ?_, fun ha => ?_,
    fun a h1 h2 ha => ?_⟩, ⟨hmem, hdevice, hie⟩, serviceInterrupt_ifReg_getLsbD hs.2, hpushed.env.bus, rfl, rfl, rfl, ?_, rfl,
    fun r _ => reg_push16 s0 s0.pc r, push16_f s0 s0.pc, ?_, push16_params s0 s0.pc, push16_schedule s0 s0.pc⟩
  · exact (peek_serviceInterrupt hr ha).trans (hpushed.high hr)
  · exact (peek_serviceInterrupt hr ha).trans (hpushed.low hr)
  · exact (peek_serviceInterrupt hr ha).trans (hpushed.bytes.bytes hr a (by simp [h1, h2]))
  · show (serviceInterrupt s0).haltBug = _
    rw [serviceInterrupt_eq]
  · exact (serviceInterrupt_fault s0).trans ((beginStep_fault s).trans hf)

/-! ### The halted core -/

@[simp] theorem fetchInstr_ifReg (s : State) : (fetchInstr s).2.ifReg = s.ifReg := by rw [fetchInstr_frame]

/-- Settles O15: a halted core is idle, or an interrupt is pending, which ime says whether to service. -/
theorem haltedCoreWakesToServeOrToContinue : Obligations.HaltedCoreWakesToServeOrToContinue := by
  intro s hf hh s0
  refine ⟨fun hp => step_of_idle hf ⟨hh, hp⟩, fun hp hi => ?_, fun hp hi => ?_⟩
  · obtain ⟨hk, hset, -⟩ := lowestBit_spec s0 hp
    exact ⟨_, step_of_service hf ⟨hi, hp⟩, rfl, rfl, lowestBit s0.pend, hk, hset, rfl⟩
  · have hr : s.runs := ⟨hf, fun hidle => hp hidle.2, fun hs => absurd (hi.symm.trans hs.1) (by decide)⟩
    refine ⟨?_, rfl, fetchInstr_ifReg s.awake, fetchInstr_halted s.awake⟩
    rw [step_of_runs hr, ← beginStep_imePending]

end Sys2Proof.Machine
end

section
/-! Instructions in a row (spec 70_reset_and_hazards.md R343, R344): the steps of a core that nothing disturbs; EI and the
instruction after it, O19; HALT with the HALT bug and the instruction after it, O20. -/

namespace Sys2Proof.Machine

/-! ### A core that nothing disturbs -/

/-- The next step runs the instruction at PC, from the environment as it is: the core runs, interrupts are masked, and the environment
does nothing before the step. -/
structure State.Undisturbed (s : State) : Prop where
  fault    : s.fault = none
  halted   : s.halted = false
  ime      : s.ime = false
  schedule : s.schedule = []

theorem State.Undisturbed.runs {s : State} (h : s.Undisturbed) : s.runs := runs_of_plain h.fault h.halted h.ime

theorem State.Undisturbed.awake_eq {s : State} (h : s.Undisturbed) : s.awake = { s with cycles := none, bus := [] } :=
  awake_of_plain h.schedule h.halted

/-- The fetch leaves such a core so (R105). -/
theorem State.Undisturbed.fetched {s : State} (h : s.Undisturbed) : (fetchInstr s.awake).2.Undisturbed where
  fault := by simpa using h.fault
  halted := by simp
  ime := by simpa using h.ime
  schedule := by simp [h.schedule]

/-- The step of such a core, from the instruction that it fetches. -/
theorem State.Undisturbed.step_of_next {s u : State} {i : Instr} (h : s.Undisturbed) (hi : s.nextInstr = i)
    (hu : exec i (fetchInstr s.awake).2 = .next u) : step s = .next (endStep s.imePending u) := by
  subst hi
  exact (step_of_runs h.runs).trans (runInstr_next hu)

/-- A one-byte row at PC, no HALT bug armed: the instruction fetched is the row's, and PC is one past it (R105). -/
theorem State.Undisturbed.fetch_of_op {s : State} {i : Instr} (h : s.Undisturbed) (hb : s.haltBug = false)
    (hop : (unprefixedDescriptor (s.peek s.pc)).slot = .op i) :
    s.nextInstr = i ∧ (fetchInstr s.awake).2.pc = s.pc + 1#16 := by
  have hslot : (unprefixedDescriptor (s.awake.peek s.awake.pc)).slot = .op i := by rw [h.awake_eq]; exact hop
  rw [State.nextInstr, fetchInstr_of_op hslot, fetchOpcode_eq, h.awake_eq]
  exact ⟨rfl, by rw [hb]; rfl⟩

/-- The fetch leaves every byte, under `RamBus` (R52). -/
theorem peek_fetchInstr_ram {s : State} (hr : s.params.bus = .ram) (a : Word) : (fetchInstr s).2.peek a = s.peek a := by
  obtain ⟨n, -, -, -, hn⟩ := fetchInstr_eq s
  rw [hn, State.fetched, readAll_ram _ hr]
  rfl

theorem State.Undisturbed.peek_fetched {s : State} (h : s.Undisturbed) (hr : s.params.bus = .ram) (a : Word) :
    (fetchInstr s.awake).2.peek a = s.peek a := by
  rw [peek_fetchInstr_ram (by simpa using hr), h.awake_eq]
  rfl

/-! ### EI and the instruction after it -/

/-- EI arms the enable, which is not due in its own step (R110, R274). -/
theorem State.Undisturbed.step_ei {s : State} (h : s.Undisturbed) (hb : s.haltBug = false) (hp : s.imePending = false)
    (hop : s.peek s.pc = 0xFB#8) : ∃ t, step s = .next t ∧ t.Undisturbed ∧ t.haltBug = false ∧ t.imePending = true ∧
      t.pc = s.pc + 1#16 := by
  obtain ⟨hi, hpc⟩ := h.fetch_of_op (i := .ei) hb (by rw [hop]; rfl)
  obtain ⟨-, -, hei⟩ := nopDiAndEiEffects (fetchInstr s.awake).2
  have hstep := h.step_of_next hi hei
  rw [hp, endStep_of_not_due] at hstep
  have hf := h.fetched
  exact ⟨_, hstep, ⟨hf.fault, hf.halted, hf.ime, hf.schedule⟩, fetchInstr_haltBug _, rfl, hpc⟩

/-- NOP with an enable armed: the enable is due, and the end of the step commits it (R110, R270). -/
theorem State.Undisturbed.step_nop {s : State} (h : s.Undisturbed) (hb : s.haltBug = false) (hp : s.imePending = true)
    (hop : s.peek s.pc = 0x00#8) : ∃ t, step s = .next t ∧ t.ime = true ∧ t.imePending = false ∧ t.pc = s.pc + 1#16 := by
  obtain ⟨hi, hpc⟩ := h.fetch_of_op (i := .nop) hb (by rw [hop]; rfl)
  obtain ⟨hnop, -, -⟩ := nopDiAndEiEffects (fetchInstr s.awake).2
  refine ⟨_, h.step_of_next hi hnop, ?_, ?_, (endStep_pc _ _).trans hpc⟩
  · simp [endStep_ime, hp, h.fault]
  · simp [endStep_imePending, hp, h.fault]

/-- DI with an enable armed: it cancels the enable before the end of the step would commit it (R110, R273). -/
theorem State.Undisturbed.step_di {s : State} (h : s.Undisturbed) (hb : s.haltBug = false) (hop : s.peek s.pc = 0xF3#8) :
    ∃ t, step s = .next t ∧ t.ime = false ∧ t.imePending = false ∧ t.pc = s.pc + 1#16 := by
  obtain ⟨hi, hpc⟩ := h.fetch_of_op (i := .di) hb (by rw [hop]; rfl)
  obtain ⟨-, hdi, -⟩ := nopDiAndEiEffects (fetchInstr s.awake).2
  refine ⟨_, h.step_of_next hi hdi, ?_, ?_, (endStep_pc _ _).trans hpc⟩
  · simp [endStep_ime]
  · simp [endStep_imePending]

/-- Settles O19: the step of EI, and then the step of each of the two from the state it leaves. -/
theorem eiThenNopEnablesAndEiThenDiDoesNot : Obligations.EiThenNopEnablesAndEiThenDiDoesNot := by
  intro s hf hh hb hi hp hs hop
  have hplain : s.Undisturbed := ⟨hf, hh, hi, hs⟩
  obtain ⟨t, hstep, ht, htb, htp, hpc⟩ := hplain.step_ei hb hp hop
  have hpc2 : t.pc + 1#16 = s.pc + 2#16 := by rw [hpc]; bv_omega
  rw [← hpc2]
  exact ⟨t, hstep, ht.ime, htp, hpc, ht.step_nop htb htp, ht.step_di htb⟩

/-! ### HALT with the HALT bug, and the instruction after it -/

/-- HALT with an interrupt pending and enabled arms the HALT bug; its own fetch has left the parameters, every register and, under
`RamBus`, every byte (R271). -/
theorem State.Undisturbed.step_halt {s : State} (h : s.Undisturbed) (hb : s.haltBug = false) (hp : s.imePending = false)
    (hpend : s.pend ≠ 0#8) (hop : s.peek s.pc = 0x76#8) : ∃ t, step s = .next t ∧ t.Undisturbed ∧ t.haltBug = true ∧
      t.imePending = false ∧ t.pc = s.pc + 1#16 ∧ t.params = s.params ∧ t.d = s.d ∧
      (s.params.bus = .ram → ∀ a, t.peek a = s.peek a) := by
  have hf := h.fetched
  obtain ⟨hi, hpc⟩ := h.fetch_of_op (i := .halt) hb (by rw [hop]; rfl)
  have hpend' : (fetchInstr s.awake).2.pend ≠ 0#8 := by rw [fetchInstr_frame, h.awake_eq]; exact hpend
  have hhalt := (haltHaltsOrArmsTheBug (fetchInstr s.awake).2).1 hf.ime hpend'
  have hstep := h.step_of_next hi hhalt
  rw [hp, endStep_of_not_due] at hstep
  refine ⟨_, hstep, ⟨hf.fault, hf.halted, hf.ime, hf.schedule⟩, rfl, ?_, hpc, ?_, ?_, h.peek_fetched⟩
  · simpa using hp
  · simp
  · rw [fetchInstr_frame, h.awake_eq]

/-- The fetch with the HALT bug armed: the byte at PC is read twice, and PC ends one lower than without it (R105). -/
theorem State.Undisturbed.fetch_of_haltBug {s : State} {n : Nat} {i : Instr} (h : s.Undisturbed) (hb : s.haltBug = true)
    (hn : n ≤ 3) (hd : decode (readAll ([s.pc, s.pc, s.pc + 1#16].take n) s.awake).1 = .ok (i, [])) :
    s.nextInstr = i ∧ (fetchInstr s.awake).2.pc = s.pc + BitVec.ofNat 16 (n - 1) := by
  have haddrs : s.awake.fetchAddrs = [s.pc, s.pc, s.pc + 1#16] := by
    rw [h.awake_eq]; simp only [State.fetchAddrs, hb, if_true]
  rw [← haddrs] at hd
  rw [State.nextInstr, fetchInstr_of_decode hn hd, State.fetched, h.awake_eq]
  exact ⟨rfl, by simp only [hb, if_true]⟩

/-- LD A,n8 at PC with the HALT bug armed, under `RamBus`: its opcode byte is its operand, and PC ends at the byte after it (R344). -/
theorem State.Undisturbed.step_ldAN8_of_haltBug {s : State} (h : s.Undisturbed) (hb : s.haltBug = true)
    (hp : s.imePending = false) (hr : s.params.bus = .ram) (hop : s.peek s.pc = 0x3E#8) :
    ∃ t, step s = .next t ∧ t.Undisturbed ∧ t.haltBug = false ∧ t.a = 0x3E#8 ∧ t.d = s.d ∧ t.pc = s.pc + 1#16 ∧
      ∀ a, t.peek a = s.peek a := by
  have hf := h.fetched
  have hbyte : s.awake.peek s.pc = 0x3E#8 := by rw [h.awake_eq]; exact hop
  have hd : decode (readAll ([s.pc, s.pc, s.pc + 1#16].take 2) s.awake).1 = .ok (.ldAN8 0x3E#8, []) := by
    rw [readAll_ram _ (by simpa using hr)]
    simp only [List.take, List.map, hbyte]
    rfl
  obtain ⟨hi, hpc⟩ := h.fetch_of_haltBug hb (by decide) hd
  have hstep := h.step_of_next (u := { (fetchInstr s.awake).2 with a := 0x3E#8, cycles := some 2 }) hi rfl
  rw [hp, endStep_of_not_due] at hstep
  refine ⟨_, hstep, ⟨hf.fault, hf.halted, hf.ime, hf.schedule⟩, fetchInstr_haltBug _, rfl, ?_, hpc, h.peek_fetched hr⟩
  rw [fetchInstr_frame, h.awake_eq]

/-- INC D at PC (R129). -/
theorem State.Undisturbed.step_incD {s : State} (h : s.Undisturbed) (hb : s.haltBug = false) (hop : s.peek s.pc = 0x14#8) :
    ∃ t, step s = .next t ∧ t.d = s.d + 1#8 ∧ t.pc = s.pc + 1#16 := by
  obtain ⟨hi, hpc⟩ := h.fetch_of_op (i := .incD) hb (by rw [hop]; rfl)
  have hd : (fetchInstr s.awake).2.d = s.d := by rw [fetchInstr_frame, h.awake_eq]
  refine ⟨_, h.step_of_next hi (exec_ofInc8 (.reg .d) _), ?_, ?_⟩
  · rw [endStep_eq, ← hd]
    exact inc8_fst (fetchInstr s.awake).2.d (fetchInstr s.awake).2.flagC
  · rw [endStep_pc]
    exact hpc

/-- Settles O20: the step of HALT, the fetch after it, and on `RamBus` the steps of the two instructions after it. -/
theorem haltBugReadsTheByteTwice : Obligations.HaltBugReadsTheByteTwice := by
  intro s hf hh hb hi hp hs hpend hop
  have hplain : s.Undisturbed := ⟨hf, hh, hi, hs⟩
  obtain ⟨t, hstep, ht, htb, htp, hpc, hparams, hd, hbytes⟩ := hplain.step_halt hb hp hpend hop
  have hpc2 : s.pc + 1#16 + 1#16 = s.pc + 2#16 := by bv_omega
  have hpc3 : s.pc + 2#16 + 1#16 = s.pc + 3#16 := by bv_omega
  refine ⟨t, hstep, ht.halted, htb, hpc, fun n i hn hdec => ?_, fun hr h1 h2 => ?_⟩
  · rw [← hpc2, ← hpc] at hdec
    obtain ⟨hnext, hpc'⟩ := ht.fetch_of_haltBug htb hn hdec
    exact ⟨ht.runs, hnext, fetchInstr_haltBug _, by rw [hpc', hpc]⟩
  · rw [← hpc, ← hbytes hr] at h1
    obtain ⟨u, hstep', hu, hub, hua, hud, hupc, hubytes⟩ := ht.step_ldAN8_of_haltBug htb htp (by rw [hparams]; exact hr) h1
    rw [hpc, hpc2] at hupc
    rw [← hbytes hr, ← hubytes, ← hupc] at h2
    obtain ⟨v, hstep'', hvd, hvpc⟩ := hu.step_incD hub h2
    exact ⟨u, v, hstep', hua, hupc, hstep'', by rw [hvd, hud, hd], by rw [hvpc, hupc, hpc3]⟩

end Sys2Proof.Machine
end
